-- ==== Sys2Proof/Word.lean ====
section
/-! DEFINITION. The words of the package (R16), its identifiers, and the sparse map that holds registers and memories as plain data. -/

namespace Sys2Proof

/-- A word of 20 bits (R16). -/
abbrev Word := BitVec 20

/-- A double: two words holding one 40-bit value, w0 in [39:20] and w1 in [19:0] (R16). -/
abbrev Dbl := BitVec 40

/-- Sparse data by key. Canonical form: keys strictly rising, and no entry equal to what an unlisted key reads as. -/
abbrev SMap (α : Type) := List (Nat × α)

/-- A concentrator die, and the ligature port of an FV die toward it (R3, R131). -/
inductive BnId where
  | a
  | b
deriving DecidableEq, Repr

/-- The other concentrator die of the pair. -/
def BnId.other : BnId → BnId
  | .a => .b
  | .b => .a

/-- The unit bit that fields of the manual use: 0 BN-A, 1 BN-B. -/
def BnId.bit : BnId → Nat
  | .a => 0
  | .b => 1

/-- An FV die position 0-5 (R6). -/
abbrev Die := Fin 6

/-- A die channel number 0-1023 (R13). -/
abbrev Chan := Fin 1024

/-- A tray of an FV die, 0-3. -/
abbrev Tray := Fin 4

/-- A compositor 0-127 (R180). -/
abbrev CompId := Fin 128

/-- A compositor cycle of a crossing, 0-31 (R182). -/
abbrev Cyc := Fin 32

/-- A serial lane 0-6 (R366). -/
abbrev Lane := Fin 7

/-- A TDC reference edge of a crossing, 0-7 (R85). -/
abbrev Edge := Fin 8

end Sys2Proof
end

