-- ==== Sys2Proof/Syntax.lean ====
section
/-! DEFINITION. The commands of the block: one constructor per row of the opcode table, with the row's operands. -/

namespace Sys2Proof

/-- The discriminators of a channel (R57). -/
inductive Disc where
  | hi
  | lo
deriving DecidableEq, Repr

/-- What a capture latches together: the two period counters and the 32-position thermometer (R88). -/
structure Latch where
  p : BitVec 8
  q : BitVec 8
  therm : BitVec 32
deriving DecidableEq, Repr

/-- The fields of a compositor instruction beside its opcode (R212). -/
structure IFields where
  psel : BitVec 2
  psense : Bool
  d : BitVec 5
  a : BitVec 5
  b : BitVec 5
  imm : BitVec 16
deriving DecidableEq, Repr

/-- The straps that a BN die samples at reset release (R14, R541). -/
structure Straps where
  bootsel : BitVec 2
  posId : BitVec 6
deriving DecidableEq, Repr

/-- The two-bit sync header of a received block (R367). -/
inductive SyncHdr where
  | data
  | control
  | invalid
deriving DecidableEq, Repr

/-- A switched power domain: of a BN die (R470) or of an FV die (R471). -/
inductive DomRef where
  | bn (u : BnId) (n : Fin 170)
  | fv (d : Die) (n : Fin 135)
deriving DecidableEq, Repr

/-- Which wait of R475 ran out. -/
inductive WakeWait where
  | powerGood
  | clockReady
deriving DecidableEq, Repr

/-- A block whose control word has CNT_CLEAR; FV blocks are written through a port (R24). -/
inductive CntBlock where
  | time | lanes | lease | acq | sheet | galley | hkc | therm | comp | power | clock | session | boot
deriving DecidableEq, Repr

/-- The FV blocks with CNT_CLEAR (R109, R147, R148). -/
inductive FvCntBlock where
  | tdc | tray | ligature
deriving DecidableEq, Repr

/-- The target of a counter clear. -/
inductive CntTarget where
  | bn (u : BnId) (b : CntBlock)
  | fv (u : BnId) (d : Die) (b : FvCntBlock)
deriving DecidableEq, Repr

/-- A clock source that can fail (R466). -/
inductive ClkSource where
  | pll
  | xo
deriving DecidableEq, Repr

/-- A session level with a key (R437). -/
inductive KeyLevel where
  | operate
  | service
deriving DecidableEq, Repr

/-- An event on the balls of the test access port (R557). -/
inductive TapEvent where
  | rise (tms tdi : Bool)
  | fall
  | trst (high : Bool)
deriving DecidableEq, Repr

/-- The tag of a command packet (R428). -/
abbrev Tag := BitVec 6

/-- The commands. Each constructor is one row of the opcode table; the docstring names the rule that governs it.
Operands that stand for physical facts (which edge, what was latched, which bits an error turned) are the event's own. -/
inductive Instr where
  /-- POWER_UP (R543). -/
  | powerUp (u : BnId) (st : Straps)
  /-- DOWNLINK_LOCK (R374). -/
  | downlinkLock (u : BnId)
  /-- PLL_LOCK (R464). -/
  | pllLock (u : BnId)
  /-- LIGATURE_TRAINING (R549): one attempt of port set d, and whether it trained. -/
  | ligatureTraining (u : BnId) (d : Die) (ok : Bool)
  /-- DOMAIN_WAKE_FAILURE (R475). -/
  | domainWakeFailure (dom : DomRef) (w : WakeWait)
  /-- BOOT_DEADLINE (R546). -/
  | bootDeadline (u : BnId)
  /-- WATCHDOG (R547). -/
  | watchdog (u : BnId)
  /-- VAO_REMOVAL (R477). -/
  | vaoRemoval (u : BnId)
  /-- PIN_RESET (R542): the straps as sampled at the release. -/
  | pinReset (u : BnId) (st : Straps)
  /-- SUPPLY_SUPERVISOR_RESET (R567). -/
  | supplySupervisorReset (u : BnId)
  /-- FV_RESET (R141): power-up of the supplies, or another reset. -/
  | fvReset (d : Die) (powerUp : Bool)
  /-- FV_SELF_TEST (R549). -/
  | fvSelfTest (d : Die)
  /-- FV_RESTORE (R490). -/
  | fvRestore (u : BnId) (d : Die)
  /-- DOWNLINK_BLOCK (R377): the sync header and the 64 payload bits received in this crossing. -/
  | downlinkBlock (u : BnId) (h : SyncHdr) (payload : BitVec 64)
  /-- DOWNLINK_LOCK_LOSS (R161). -/
  | downlinkLockLoss (u : BnId)
  /-- DOWNLINK_RELOCK (R161). -/
  | downlinkRelock (u : BnId)
  /-- TRIG (R314). -/
  | trig (u : BnId) (arg : BitVec 8)
  /-- XRESET (R157). -/
  | xreset (u : BnId)
  /-- SYNC (R166). -/
  | sync (u : BnId) (arg : BitVec 8)
  /-- LEASE (R396). -/
  | lease (u : BnId) (arg : BitVec 8)
  /-- RELEASE_ASK (R414). -/
  | releaseAsk (u : BnId) (arg : BitVec 8)
  /-- IMPRESS_GO (R452). -/
  | impressGo (u : BnId) (arg : BitVec 8)
  /-- CALPULSE (R70). -/
  | calpulse (u : BnId)
  /-- ACK (R407). -/
  | ack (u : BnId) (arg : BitVec 8)
  /-- WAKE_HOLD (R479). -/
  | wakeHold (u : BnId)
  /-- WAKE_HOLD_END (R479). -/
  | wakeHoldEnd (u : BnId)
  /-- PACKET_SCREEN (R429). -/
  | packetScreen (u : BnId)
  /-- PACKET_TIMEOUT (R429). -/
  | packetTimeout (u : BnId)
  /-- NOP (R441). -/
  | nop (u : BnId) (tag : Tag)
  /-- ECHO (R441). -/
  | echo (u : BnId) (tag : Tag) (ws : List Word)
  /-- OPEN_SESSION (R438): d0 and the seven key words d1-d7. -/
  | openSession (u : BnId) (tag : Tag) (d0 : Word) (key : List Word)
  /-- CLOSE_SESSION (R440). -/
  | closeSession (u : BnId) (tag : Tag)
  /-- READ (R432). -/
  | read (u : BnId) (tag : Tag) (d0 d1 : Word)
  /-- WRITE (R432). -/
  | write (u : BnId) (tag : Tag) (d0 : Word) (vals : List Word)
  /-- STAGE (R447). -/
  | stage (u : BnId) (tag : Tag) (d0 : Word) (vals : List Word)
  /-- PROOF (R449). -/
  | proof (u : BnId) (tag : Tag) (d0 : Word)
  /-- IMPRESS (R451). -/
  | impress (u : BnId) (tag : Tag) (d0 d1 d2 d3 : Word)
  /-- DISCARD (R453). -/
  | discard (u : BnId) (tag : Tag)
  /-- FORME_LOAD (R252). -/
  | formeLoad (u : BnId) (tag : Tag) (d0 : Word) (ws : List Word)
  /-- FORME_VERIFY (R255). -/
  | formeVerify (u : BnId) (tag : Tag)
  /-- QUEUE_FLUSH (R293). -/
  | queueFlush (u : BnId) (tag : Tag) (d0 d1 d2 d3 : Word)
  /-- SCRUB (R302). -/
  | scrub (u : BnId) (tag : Tag) (d0 d1 d2 : Word)
  /-- SCRUB_REPORT (R302). -/
  | scrubReport (u : BnId) (tag : Tag)
  /-- HK_URGENT (R512). -/
  | hkUrgent (u : BnId) (tag : Tag) (d0 : Word)
  /-- STATS_START (R445). -/
  | statsStart (u : BnId) (tag : Tag) (d0 : Word)
  /-- STATS_READ (R445). -/
  | statsRead (u : BnId) (tag : Tag) (d0 : Word)
  /-- TAP_SET (R445). -/
  | tapSet (u : BnId) (tag : Tag) (d0 : Word)
  /-- TAP_READ (R445). -/
  | tapRead (u : BnId) (tag : Tag) (d0 : Word)
  /-- TIME_STEP (R162): crossing C in d0-d2, time quad in d3-d6. -/
  | timeStep (u : BnId) (tag : Tag) (d0 d1 d2 d3 d4 d5 d6 : Word)
  /-- TIME_RATE (R163): crossing C in d0-d2, rate in d3 and d4. -/
  | timeRate (u : BnId) (tag : Tag) (d0 d1 d2 d3 d4 : Word)
  /-- TIME_READ (R176). -/
  | timeRead (u : BnId) (tag : Tag)
  /-- SLEEP (R478). -/
  | sleep (u : BnId) (tag : Tag)
  /-- DOZE (R478). -/
  | doze (u : BnId) (tag : Tag)
  /-- WAKE (R474). -/
  | wake (u : BnId) (tag : Tag) (d0 : Word)
  /-- RESET_BLOCK of an FV die (R444). -/
  | resetBlockFv (u : BnId) (tag : Tag) (d : Die)
  /-- RESET_BLOCK with target 6 or 7 and any block (R444); block 00h of target 6 resets this BN die. -/
  | resetBlockBn (u : BnId) (tag : Tag) (toSeven : Bool) (blk : BitVec 8)
  /-- RESET_BLOCK of the HKC (R523). -/
  | resetBlockHkc (u : BnId) (tag : Tag)
  /-- RESET_BLOCK of lane L (R444). -/
  | laneRestart (u : BnId) (tag : Tag) (l : Lane)
  /-- SELFTEST 00b (R444); test 11b is RANGE. -/
  | selftestChecker (u : BnId) (tag : Tag) (reserved : Bool)
  /-- SELFTEST 01b (R444). -/
  | selftestProbe (u : BnId) (tag : Tag)
  /-- SELFTEST 10b (R444). -/
  | selftestGalley (u : BnId) (tag : Tag)
  /-- BOOT_INFO (R553). -/
  | bootInfo (u : BnId) (tag : Tag) (d0 : Word)
  /-- BOOT_CLEAR (R552). -/
  | bootClear (u : BnId) (tag : Tag)
  /-- LEASE_INFO (R441). -/
  | leaseInfo (u : BnId) (tag : Tag) (d0 : Word)
  /-- ROLE_REQUEST with code ENTER, or with a code other than LEAVE (R394). -/
  | enter (u : BnId) (tag : Tag) (code : BitVec 8)
  /-- ROLE_REQUEST LEAVE (R394). -/
  | leave (u : BnId) (tag : Tag)
  /-- STATE_SAVE (R443). -/
  | stateSave (u : BnId) (tag : Tag) (d0 : Word)
  /-- STATE_RESTORE (R443). -/
  | stateRestore (u : BnId) (tag : Tag) (d0 : Word) (ws : List Word)
  /-- KEY_SET that programs a slot (R459). -/
  | keySet (u : BnId) (tag : Tag) (lvl : KeyLevel) (slot : Fin 8) (digest : List Word)
  /-- KEY_SET with REVOKE (R459). -/
  | revoke (u : BnId) (tag : Tag) (lvl : KeyLevel) (slot : Fin 8) (digest : List Word)
  /-- PATCH_LOAD (R445). -/
  | patchLoad (u : BnId) (tag : Tag) (entry : Fin 64) (ws : List Word)
  /-- PATCH_LOAD with CLEAR (R445). -/
  | patchClear (u : BnId) (tag : Tag) (entry : Fin 64) (ws : List Word)
  /-- OTP_READ (R441). -/
  | otpRead (u : BnId) (tag : Tag) (d0 d1 : Word)
  /-- REGISTER_WRITE (R19): one word written, or staged, at a parameter address. -/
  | registerWrite (u : BnId) (staged : Bool) (addr : Word) (val : Word)
  /-- CNT_CLEAR (R109). -/
  | cntClear (t : CntTarget)
  /-- START (R309). -/
  | start (u : BnId)
  /-- STOP (R309). -/
  | stop (u : BnId)
  /-- COUNT_RUN_START (R65): COUNT_CTRL written with COUNT_RUN = 1 and these other fields. -/
  | countRunStart (u : BnId) (d : Die) (sel : Bool) (len : BitVec 16)
  /-- COUNT_RUN_STOP (R65): COUNT_CTRL written with COUNT_RUN = 0. -/
  | countRunStop (u : BnId) (d : Die) (sel : Bool) (len : BitVec 16)
  /-- COUNT_WINDOW_END (R65). -/
  | countWindowEnd (d : Die)
  /-- SNAP (R177): the write, or the boundary that loads the snapshot. -/
  | snap (u : BnId) (load : Bool)
  /-- EXCHANGE_EVALUATION (R168): the value written to T4_Q3. -/
  | exchangeEvaluation (u : BnId) (val : Word)
  /-- LOAD_DATA (R252). -/
  | loadData (u : BnId) (val : Word)
  /-- LOAD_RESET (R276). -/
  | loadReset (u : BnId)
  /-- FV_IMPRESS_DISCARD (R146). -/
  | fvImpressDiscard (u : BnId) (d : Die)
  /-- SAFE_CLEAR (R140). -/
  | safeClear (u : BnId) (d : Die)
  /-- CLK_SEL (R465). -/
  | clkSel (u : BnId) (src : BitVec 2)
  /-- CALFAIL_CNT_AUTO_INC (R109). -/
  | calfailCntAutoInc (u : BnId) (d : Die)
  /-- FDOM_REQ (R476). -/
  | fdomReq (u : BnId) (d : Die) (dom : Fin 135) (req : Bool)
  /-- WINDOW_TABLE_WRITE (R580). -/
  | windowTableWrite (u : BnId) (staged : Bool) (idx : Fin 2048) (val : Word)
  /-- HK_START (R511). -/
  | hkStart (u : BnId)
  /-- HK_RUN_STOP (R511). -/
  | hkRunStop (u : BnId)
  /-- GEN_EN (R389): LCFG written with this word, GEN_EN set. -/
  | genEn (u : BnId) (l : Lane) (val : Word)
  /-- CHK_EN (R390): LCFG written with this word, CHK_EN set. -/
  | chkEn (u : BnId) (l : Lane) (val : Word)
  /-- PRBS_DUR_END (R389). -/
  | prbsDurEnd (u : BnId) (l : Lane)
  /-- CHECKER_LOCK (R390): the checker compares one aligned 64-bit word; the mismatching bits. -/
  | checkerLock (u : BnId) (l : Lane) (mism : BitVec 64)
  /-- INJ_ONE (R391): LINJ written with INJ_ONE = 1 and, if asked, INJ_BURST too. -/
  | injOne (u : BnId) (l : Lane) (both : Bool)
  /-- INJ_BURST (R391): LINJ written with INJ_BURST = 1 and this BURST_LEN. -/
  | injBurst (u : BnId) (l : Lane) (len : BitVec 8)
  /-- LEADING_EDGE (R83): after edge e of the crossing; E1 is edge k of this or the next crossing; the captures at E1-E3. -/
  | leadingEdge (d : Die) (ch : Chan) (disc : Disc) (e : Edge) (nextXc : Bool) (k : Edge) (e1 e2 e3 : Latch)
  /-- TRAILING_EDGE (R87): after edge e of the crossing; the capture vT. -/
  | trailingEdge (d : Die) (ch : Chan) (disc : Disc) (e : Edge) (t : Latch)
  /-- RING_OVERFLOW (R87): after edge e of the crossing. -/
  | ringOverflow (d : Die) (ch : Chan) (e : Edge)
  /-- SATURATION (R74): after edge e of the crossing. -/
  | saturation (d : Die) (ch : Chan) (e : Edge)
  /-- TAKE (R90): at edge e. -/
  | take (d : Die) (t : Tray) (e : Edge)
  /-- HIT_DELIVERY (R99): the tray's next delivery due at edge e. -/
  | hitDelivery (d : Die) (t : Tray) (e : Edge)
  /-- RE_ARM (R91): at edge e. -/
  | reArm (d : Die) (ch : Chan) (e : Edge)
  /-- FRAME_FILL (R116). -/
  | frameFill (d : Die)
  /-- INJECTION_PULSE (R70). -/
  | injectionPulse (d : Die)
  /-- FRAME_CHECK (R192): the window position of the frame's last beat, if one arrived; how many other frames completed in the window; the bits turned in each beat. -/
  | frameCheck (u : BnId) (d : Die) (pos : Option (Fin 32)) (others : Nat) (err : SMap Dbl)
  /-- LIGATURE_DELIVERY (R193): the delivery of a beat of the frame of die d. -/
  | ligatureDelivery (u : BnId) (d : Die) (beat : Fin 31)
  /-- BN_FRAME_RECEIVE (R132): the frame from port u, with the bits turned in D0-D7. -/
  | bnFrameReceive (d : Die) (u : BnId) (err : SMap Dbl)
  /-- TDC_RESTART (R144). -/
  | tdcRestart (d : Die)
  /-- FV_IMPRESS (R135). -/
  | fvImpress (d : Die)
  /-- SCALE_APPLY (R133). -/
  | scaleApply (d : Die)
  /-- PHASE_MEASUREMENT (R100): which port's edge 0 came first, whether they fell within 60 ps, and the captures. -/
  | phaseMeasurement (d : Die) (t : Tray) (first : BnId) (near : Bool) (vT e1 e2 e3 : Latch)
  /-- REQUEST_SERVE (R136). -/
  | requestServe (d : Die)
  /-- REQUEST_TIMEOUT (R136). -/
  | requestTimeout (u : BnId) (d : Die)
  /-- KEEPALIVE (R137). -/
  | keepalive (d : Die)
  /-- CLOCK_LOSS_LINE (R137). -/
  | clockLossLine (d : Die) (u : BnId)
  /-- REFLOSS (R137): the reference on port u stops for more than 20 ns. -/
  | refloss (d : Die) (u : BnId)
  /-- REFERENCE_RETURN (R138). -/
  | referenceReturn (d : Die) (u : BnId)
  /-- PROBE_STEP (R198): the bits in which the datapath's result differs from the known answer. -/
  | probeStep (u : BnId) (n : CompId) (dev : BitVec 40)
  /-- PROBE_ROUND (R200). -/
  | probeRound (u : BnId)
  /-- NOP_INSTRUCTION (R221), or a reserved opcode (R214). -/
  | nopInstruction (u : BnId) (n : CompId) (c : Cyc) (op : BitVec 6) (f : IFields)
  | add (u : BnId) (n : CompId) (c : Cyc) (f : IFields)
  | sub (u : BnId) (n : CompId) (c : Cyc) (f : IFields)
  | adds (u : BnId) (n : CompId) (c : Cyc) (f : IFields)
  | subs (u : BnId) (n : CompId) (c : Cyc) (f : IFields)
  | addi (u : BnId) (n : CompId) (c : Cyc) (f : IFields)
  | addis (u : BnId) (n : CompId) (c : Cyc) (f : IFields)
  | ldi (u : BnId) (n : CompId) (c : Cyc) (f : IFields)
  | and (u : BnId) (n : CompId) (c : Cyc) (f : IFields)
  | or (u : BnId) (n : CompId) (c : Cyc) (f : IFields)
  | xor (u : BnId) (n : CompId) (c : Cyc) (f : IFields)
  | andi (u : BnId) (n : CompId) (c : Cyc) (f : IFields)
  | ori (u : BnId) (n : CompId) (c : Cyc) (f : IFields)
  | xori (u : BnId) (n : CompId) (c : Cyc) (f : IFields)
  | min (u : BnId) (n : CompId) (c : Cyc) (f : IFields)
  | max (u : BnId) (n : CompId) (c : Cyc) (f : IFields)
  | abs (u : BnId) (n : CompId) (c : Cyc) (f : IFields)
  | negs (u : BnId) (n : CompId) (c : Cyc) (f : IFields)
  | shl (u : BnId) (n : CompId) (c : Cyc) (f : IFields)
  | shr (u : BnId) (n : CompId) (c : Cyc) (f : IFields)
  | sra (u : BnId) (n : CompId) (c : Cyc) (f : IFields)
  | shli (u : BnId) (n : CompId) (c : Cyc) (f : IFields)
  | shri (u : BnId) (n : CompId) (c : Cyc) (f : IFields)
  | srai (u : BnId) (n : CompId) (c : Cyc) (f : IFields)
  | ext (u : BnId) (n : CompId) (c : Cyc) (f : IFields)
  | exts (u : BnId) (n : CompId) (c : Cyc) (f : IFields)
  | ins (u : BnId) (n : CompId) (c : Cyc) (f : IFields)
  | clz (u : BnId) (n : CompId) (c : Cyc) (f : IFields)
  | cmp (u : BnId) (n : CompId) (c : Cyc) (f : IFields)
  | cmpi (u : BnId) (n : CompId) (c : Cyc) (f : IFields)
  | sel (u : BnId) (n : CompId) (c : Cyc) (f : IFields)
  | pset (u : BnId) (n : CompId) (c : Cyc) (f : IFields)
  | mula (u : BnId) (n : CompId) (c : Cyc) (f : IFields)
  | mac (u : BnId) (n : CompId) (c : Cyc) (f : IFields)
  | macs (u : BnId) (n : CompId) (c : Cyc) (f : IFields)
  | msu (u : BnId) (n : CompId) (c : Cyc) (f : IFields)
  | msus (u : BnId) (n : CompId) (c : Cyc) (f : IFields)
  | maci (u : BnId) (n : CompId) (c : Cyc) (f : IFields)
  | rda (u : BnId) (n : CompId) (c : Cyc) (f : IFields)
  | wra (u : BnId) (n : CompId) (c : Cyc) (f : IFields)
  | mul (u : BnId) (n : CompId) (c : Cyc) (f : IFields)
  | tld (u : BnId) (n : CompId) (c : Cyc) (f : IFields)
  | luti (u : BnId) (n : CompId) (c : Cyc) (f : IFields)
  | recip (u : BnId) (n : CompId) (c : Cyc) (f : IFields)
  | rstep (u : BnId) (n : CompId) (c : Cyc) (f : IFields)
  | xsend (u : BnId) (n : CompId) (c : Cyc) (f : IFields)
  | xrecv (u : BnId) (n : CompId) (c : Cyc) (f : IFields)
  | rsend (u : BnId) (n : CompId) (c : Cyc) (f : IFields)
  | rrecv (u : BnId) (n : CompId) (c : Cyc) (f : IFields)
  | gput (u : BnId) (n : CompId) (c : Cyc) (f : IFields)
  | gget (u : BnId) (n : CompId) (c : Cyc) (f : IFields)
  | jput (u : BnId) (n : CompId) (c : Cyc) (f : IFields)
  | mark (u : BnId) (n : CompId) (c : Cyc) (f : IFields)
  | rdsys (u : BnId) (n : CompId) (c : Cyc) (f : IFields)
  /-- COMPOSITOR_SCRUB (R203). -/
  | compositorScrub (u : BnId)
  /-- BANK_COPY (R204). -/
  | bankCopy (u : BnId) (n : CompId)
  /-- TBL_CRC (R448). -/
  | tblCrc (u : BnId) (n : CompId)
  /-- IMPRESS_APPLY (R451). -/
  | impressApply (u : BnId)
  /-- QUEUE_FLUSH_APPLY (R293). -/
  | queueFlushApply (u : BnId) (q : Fin 64)
  /-- BACKGROUND_SCRUB (R301). -/
  | backgroundScrub (u : BnId)
  /-- SCRUB_COMPLETE (R304). -/
  | scrubComplete (u : BnId)
  /-- WATER_MARKS (R297). -/
  | waterMarks (u : BnId)
  /-- CUT_STEP (R326). -/
  | cutStep (u : BnId)
  /-- RUN_START (R310). -/
  | runStart (u : BnId)
  /-- DRAIN (R311). -/
  | drain (u : BnId)
  /-- DRAIN_END (R311). -/
  | drainEnd (u : BnId)
  /-- SHEET_ASSEMBLY (R335). -/
  | sheetAssembly (u : BnId)
  /-- SHEET_TRANSMIT (R409). -/
  | sheetTransmit (u : BnId)
  /-- TRAINING_BURST_END (R371). -/
  | trainingBurstEnd (u : BnId) (l : Lane)
  /-- LOS (R373): asserted or cleared. -/
  | los (u : BnId) (l : Lane) (asserted : Bool)
  /-- LOL (R373): lock lost or regained. -/
  | lol (u : BnId) (l : Lane) (lost : Bool)
  /-- BLOCK_LOCK (R368): the sync header of one received block is valid or not. -/
  | blockLock (u : BnId) (l : Lane) (valid : Bool)
  /-- WAKE_PATTERN (R382): one run of activity or silence, in samples of 62.5 ns. -/
  | wakePattern (u : BnId) (active : Bool) (samples : Nat)
  /-- CROSS_LINK_FRAME (R386): block lock, all four blocks data blocks, the last bit in the window; the bits turned. -/
  | crossLinkFrame (u : BnId) (arrived : Bool) (blocksOk inWindow : Bool) (err : BitVec 256)
  /-- XLINK_DOWN (R387). -/
  | xlinkDown (u : BnId)
  /-- XLINK_UP (R387). -/
  | xlinkUp (u : BnId)
  /-- ANCHOR (R385). -/
  | anchor (u : BnId)
  /-- TWIN (R448). -/
  | twin (u : BnId)
  /-- STATE (R417). -/
  | state (u : BnId)
  /-- ENTRY_ASK (R416). -/
  | entryAsk (u : BnId)
  /-- ENTRY (R416). -/
  | entry (u : BnId)
  /-- ENTRY_DEFER (R421). -/
  | entryDefer (u : BnId)
  /-- LOCK (R418). -/
  | lock (u : BnId)
  /-- ENTRY_ABORT (R418). -/
  | entryAbort (u : BnId)
  /-- HANDOVER (R414). -/
  | handover (u : BnId)
  /-- ACCEPT (R414). -/
  | accept (u : BnId)
  /-- COMMIT (R414). -/
  | commit (u : BnId)
  /-- HANDOVER_END (R414). -/
  | handoverEnd (u : BnId)
  /-- THERM (R533). -/
  | therm (u : BnId)
  /-- LEASE_EXPIRY (R395). -/
  | leaseExpiry (u : BnId)
  /-- CLAIM (R415). -/
  | claim (u : BnId)
  /-- DOZE_ENTRY (R480). -/
  | dozeEntry (u : BnId)
  /-- DOZE_EXIT (R481). -/
  | dozeExit (u : BnId)
  /-- DOZE_LIMIT (R481). -/
  | dozeLimit (u : BnId)
  /-- SLEEP_ENTRY (R484). -/
  | sleepEntry (u : BnId)
  /-- CLOCK_SOURCE_FAILURE (R467). -/
  | clockSourceFailure (u : BnId) (src : ClkSource)
  /-- CLOCK_WAIT_END (R468). -/
  | clockWaitEnd (u : BnId) (ms : BitVec 16)
  /-- XO_FAIL (R466). -/
  | xoFail (u : BnId)
  /-- PANTRY_SCRUB (R491). -/
  | pantryScrub (u : BnId)
  /-- PANTRY_SWEEP (R489). -/
  | pantrySweep (u : BnId)
  /-- SESSION_TIMEOUT (R440). -/
  | sessionTimeout (u : BnId)
  /-- LOCKOUT_END (R439). -/
  | lockoutEnd (u : BnId) (lvl : KeyLevel)
  /-- TIME_STEP_EFFECT (R162). -/
  | timeStepEffect (u : BnId)
  /-- TIME_RATE_EFFECT (R163). -/
  | timeRateEffect (u : BnId)
  /-- HK_ROUND_START (R511): at this device time in tk, for a periodic start. -/
  | hkRoundStart (u : BnId)
  /-- HK_OUTPUT_SAMPLE (R496): the raw code of the sample at its instant (device time in tk). -/
  | hkOutputSample (u : BnId) (raw : Word) (instant : Nat)
  /-- HK_DWELL_END (R499). -/
  | hkDwellEnd (u : BnId)
  /-- URGENT_CONVERSION (R513). -/
  | urgentConversion (u : BnId)
  /-- OPEN_CIRCUIT (R506). -/
  | openCircuit (u : BnId)
  /-- OVER_RANGE (R507): negative or positive overload. -/
  | overRange (u : BnId) (negative : Bool)
  /-- BLANK (R508): the level of the BLANK ball. -/
  | blank (u : BnId) (high : Bool)
  /-- GRACE (R532). -/
  | grace (u : BnId)
  /-- HOLD_S (R532). -/
  | holdS (u : BnId)
  /-- HOLDOVER_CROSSING (R161). -/
  | holdoverCrossing (u : BnId)
  /-- CLOCK_WAIT_ADVANCE (R467). -/
  | clockWaitAdvance (u : BnId)
  /-- POWER_GOOD (R472). -/
  | powerGood (dom : DomRef)
  /-- TEST_ACCESS_PORT (R557). -/
  | testAccessPort (ev : TapEvent)
  /-- SHADOW_ENTRY_END (R418). -/
  | shadowEntryEnd (u : BnId)
deriving DecidableEq, Repr

end Sys2Proof
end

