-- ==== Sys2Proof/Config.lean ====
section
/-! DEFINITION. What a part fixes and the spec does not list, and the free values: constants without a body, so that nothing
can be proved from one value of them (log entries 2 and 5). -/

namespace Sys2Proof.Config

/-- The free value of a given kind, drawn at a given count (log entry 5). -/
opaque freeValue : Nat → Nat → Nat

/-- The code lengths that a standard forme gives the symbols of a field (CH 0, TOA 1, TOT 2) from the symbol counts: the spec
states what a table must meet (R358, R359), not which table is built (log entry 5). -/
opaque tableLength : (field : Nat) → (counts : List Nat) → (symbol : Nat) → Nat

/-- The signed 12-bit OTP amplitude correction of a tray (R68, R80). -/
opaque injGain : Die → Tray → BitVec 12

/-- The route skew of a tray in tk, held in OTP from production test (R100). -/
opaque routeSkew : Die → Tray → Int

/-- The 80-bit serial of the package, as four words (R458). -/
opaque pkgSerial : Fin 4 → Word

/-- The serial of a BN die, as two words (R458). -/
opaque bnSerial : BnId → Fin 2 → Word

/-- The serial of an FV die, as two words (R558). -/
opaque fvSerial : Die → Fin 2 → Word

/-- The version of the copyholder ROM (R458). -/
opaque romVer : Word

/-- The oscillator trim code of a BN die (R493). -/
opaque toscTrim : BnId → BitVec 8

/-- The probe step words of the COMP block (R210, R211). -/
opaque probeRom : Fin 128 → Word

/-- The probe table words of the COMP block (R210, R211). -/
opaque probeTable : Fin 16 → Word

/-- The OTP words of a BN die other than the key slots (R441, R459). -/
opaque otpWord : BnId → Nat → Word

/-- The digest of the delivery key that fills slot 0 of each level, as thirteen words with REVOKED and PROGRAMMED set apart
(R438, R459): level 0 OPERATE, 1 SERVICE. -/
opaque deliveryDigest : BnId → Fin 2 → Fin 13 → Word

/-- The length of the instruction register of the test access port (R557; the standard leaves it to the part). -/
opaque tapIrLen : Nat

/-- The number of cells of the boundary register of one BN die (R557). -/
opaque tapCells : Nat

/-- The instruction codes of SAMPLE/PRELOAD and IDCODE (R557); BYPASS is all ones and EXTEST all zeros in the standard. -/
opaque tapSample : Nat

/-- The instruction code of IDCODE (R557). -/
opaque tapIdcode : Nat

end Sys2Proof.Config
end

