-- ==== Sys2Proof/Machine/Bits.lean ====
section
/-! DEFINITION. Plain helpers: sparse maps, bit fields, saturating counts, lists. -/

namespace Sys2Proof.Machine

/-- The entry of a key; an unlisted key reads as `d`. -/
def mget (m : SMap α) (k : Nat) (d : α) : α :=
  match m with
  | [] => d
  | (j, v) :: t => if j = k then v else mget t k d

/-- The map without a key. -/
def mdel (m : SMap α) (k : Nat) : SMap α := m.filter (fun p => p.1 != k)

/-- A new key put at its place in rising order. -/
def mins (k : Nat) (v : α) : SMap α → SMap α
  | [] => [(k, v)]
  | (j, w) :: t => if k < j then (k, v) :: (j, w) :: t else (j, w) :: mins k v t

/-- The map with `k` reading as `v`; the default `d` is not listed, so the canonical form is kept. -/
def mput [DecidableEq α] (m : SMap α) (k : Nat) (v d : α) : SMap α :=
  if v = d then mdel m k else mins k v (mdel m k)

/-- Canonical form: keys strictly rising from `lo` on, no entry equal to the default. -/
def mwfFrom [DecidableEq α] (d : Nat → α) (lo : Nat) : SMap α → Bool
  | [] => true
  | (j, v) :: t => decide (lo ≤ j) && decide (v ≠ d j) && mwfFrom d (j + 1) t

/-- Canonical form of a map whose unlisted key `k` reads as `d k`. -/
def mwf [DecidableEq α] (d : Nat → α) (m : SMap α) : Bool := mwfFrom d 0 m

/-- The bits `hi` down to `lo` of a number. -/
def bitsOf (n hi lo : Nat) : Nat := n / 2 ^ lo % 2 ^ (hi + 1 - lo)

/-- One bit of a number. -/
def bitOf (n i : Nat) : Bool := n.testBit i

/-- A field of a word. -/
def fld (w : Word) (hi lo : Nat) : Nat := bitsOf w.toNat hi lo

/-- One bit of a word. -/
def wbit (w : Word) (i : Nat) : Bool := w.toNat.testBit i

/-- A word from a number, modulo 2^20. -/
def wof (n : Nat) : Word := BitVec.ofNat 20 n

/-- A number with the bits `hi` down to `lo` replaced. -/
def setBits (n hi lo v : Nat) : Nat := n - bitsOf n hi lo * 2 ^ lo + v % 2 ^ (hi + 1 - lo) * 2 ^ lo

/-- A word with a field replaced. -/
def setFld (w : Word) (hi lo v : Nat) : Word := wof (setBits w.toNat hi lo v)

/-- 1 for true. -/
def b2n (b : Bool) : Nat := if b then 1 else 0

/-- A counter of `n` bits that saturates at its largest value. -/
def satAdd (w : Word) (k n : Nat) : Word := wof (min (w.toNat + k) (2 ^ n - 1))

/-- The low part of the masked merge: `v` where the mask is 1, `w` elsewhere. -/
def merge (w v : Word) (m : Nat) : Word := (w &&& ~~~ wof m) ||| (v &&& wof m)

/-- An integer from a number of `n` bits in two's complement. -/
def sx (v n : Nat) : Int := if v % 2 ^ n < 2 ^ (n - 1) then (v % 2 ^ n : Int) else (v % 2 ^ n : Int) - 2 ^ n

/-- A number of `n` bits from an integer, modulo 2^n. -/
def ofInt (i : Int) (n : Nat) : Nat := (i % (2 ^ n : Int)).toNat

/-- An integer clamped to `n` bits in two's complement. -/
def clampInt (i : Int) (n : Nat) : Int := max (-(2 ^ (n - 1) : Int)) (min i (2 ^ (n - 1) - 1))

/-- A double from its two words, w0 in [39:20] (R16). -/
def dbl (w0 w1 : Word) : Dbl := w0 ++ w1

/-- A double from a number. -/
def dof (n : Nat) : Dbl := BitVec.ofNat 40 n

/-- Word w0 of a double (R16). -/
def dhi (d : Dbl) : Word := wof (d.toNat / 2 ^ 20)

/-- Word w1 of a double (R16). -/
def dlo (d : Dbl) : Word := wof d.toNat

/-- The words of a number of `k` words, most significant first. -/
def wordsOf (n : Nat) : Nat → List Word
  | 0 => []
  | k + 1 => wof (n / 2 ^ (20 * k)) :: wordsOf n k

/-- A crossing of 48 bits as three words [19:0], [39:20], [47:40] (R441). -/
def xcWords (n : Nat) : List Word := [wof n, wof (n / 2 ^ 20), wof (bitsOf n 47 40)]

/-- The crossing that three words name; the bits of the third above [7:0] are ignored (R21). -/
def xcOf (w0 w1 w2 : Word) : Nat := w0.toNat + w1.toNat * 2 ^ 20 + fld w2 7 0 * 2 ^ 40

/-- The bits of a number of `n` bits, most significant first. -/
def bitsMsb (v : Nat) : Nat → List Bool
  | 0 => []
  | n + 1 => v.testBit n :: bitsMsb v n

/-- The bits of a list of words, 20 each, bit 19 first. -/
def wordBits (ws : List Word) : List Bool := ws.flatMap (fun w => bitsMsb w.toNat 20)

/-- The bits of a list of doubles, bit 39 first. -/
def dblBits (ds : List Dbl) : List Bool := ds.flatMap (fun d => bitsMsb d.toNat 40)

/-- Replace one element of a vector. -/
def vset (v : Vector α n) (i : Fin n) (a : α) : Vector α n := v.set i a

/-- Map over the indices of a fixed number of dies, trays, and so on. -/
def idx (n : Nat) : List (Fin n) := List.finRange n

/-- The distance from `b` to `a` modulo 2^20, as a signed number. -/
def dist20 (a b : Word) : Int := sx (a - b).toNat 20

/-- Replace the first element that meets a test. -/
def replaceFirst (p : α → Bool) (f : α → α) : List α → List α
  | [] => []
  | a :: t => if p a then f a :: t else a :: replaceFirst p f t

/-- Remove the first element that meets a test. -/
def removeFirst (p : α → Bool) : List α → List α
  | [] => []
  | a :: t => if p a then t else a :: removeFirst p t

/-- Insert before the first element that the new one precedes. -/
def insertBy (lt : α → α → Bool) (a : α) : List α → List α
  | [] => [a]
  | b :: t => if lt a b then a :: b :: t else b :: insertBy lt a t

end Sys2Proof.Machine
end

