-- ==== Sys2Proof/Machine/Crc.lean ====
section
/-! DEFINITION. The cyclic checks of the spec, bit by bit (R128, R375, R383, R428), and SHA-256 (R248, R438). -/

namespace Sys2Proof.Machine

/-- One bit through a cyclic check of width `n`, no reflection. -/
def crcStep (n gen : Nat) (c : Nat) (b : Bool) : Nat :=
  let top := c.testBit (n - 1) != b
  let c2 := c * 2 % 2 ^ n
  if top then c2 ^^^ gen else c2

/-- A cyclic check of width `n` over bits, first bit first. -/
def crcBits (n gen init : Nat) (bs : List Bool) : Nat := bs.foldl (crcStep n gen) init

/-- CRC-8 of bits [63:8] of a downlink payload (R375). -/
def crc8 (payload : BitVec 64) : Nat := crcBits 8 0x07 0 (bitsMsb (payload.toNat / 256) 56)

/-- CRC-16 over words (R428). -/
def crc16 (ws : List Word) : Nat := crcBits 16 0x1021 0xFFFF (wordBits ws)

/-- CRC-16 over the bits [255:16] of a cross-link frame (R383). -/
def crc16Frame (f : BitVec 256) : Nat := crcBits 16 0x1021 0xFFFF (bitsMsb (f.toNat / 2 ^ 16) 240)

/-- CRC-32 over bits: generator 04C1_1DB7h, initial value FFFF_FFFFh, no inversion (R128). -/
def crc32 (bs : List Bool) : Nat := crcBits 32 0x04C11DB7 0xFFFFFFFF bs

/-- CRC-32 over words, bit 19 first (R448). -/
def crc32Words (ws : List Word) : Nat := crc32 (wordBits ws)

/-- The round constants of SHA-256. -/
def shaK : List Nat := [
  0x428a2f98, 0x71374491, 0xb5c0fbcf, 0xe9b5dba5, 0x3956c25b, 0x59f111f1, 0x923f82a4, 0xab1c5ed5,
  0xd807aa98, 0x12835b01, 0x243185be, 0x550c7dc3, 0x72be5d74, 0x80deb1fe, 0x9bdc06a7, 0xc19bf174,
  0xe49b69c1, 0xefbe4786, 0x0fc19dc6, 0x240ca1cc, 0x2de92c6f, 0x4a7484aa, 0x5cb0a9dc, 0x76f988da,
  0x983e5152, 0xa831c66d, 0xb00327c8, 0xbf597fc7, 0xc6e00bf3, 0xd5a79147, 0x06ca6351, 0x14292967] ++ [
  0x27b70a85, 0x2e1b2138, 0x4d2c6dfc, 0x53380d13, 0x650a7354, 0x766a0abb, 0x81c2c92e, 0x92722c85,
  0xa2bfe8a1, 0xa81a664b, 0xc24b8b70, 0xc76c51a3, 0xd192e819, 0xd6990624, 0xf40e3585, 0x106aa070,
  0x19a4c116, 0x1e376c08, 0x2748774c, 0x34b0bcb5, 0x391c0cb3, 0x4ed8aa4a, 0x5b9cca4f, 0x682e6ff3,
  0x748f82ee, 0x78a5636f, 0x84c87814, 0x8cc70208, 0x90befffa, 0xa4506ceb, 0xbef9a3f7, 0xc67178f2]

/-- The initial hash value of SHA-256. -/
def shaInit : List Nat := [0x6a09e667, 0xbb67ae85, 0x3c6ef372, 0xa54ff53a, 0x510e527f, 0x9b05688c, 0x1f83d9ab, 0x5be0cd19]

/-- Right rotation of 32 bits. -/
def ror32 (x k : Nat) : Nat := x >>> k ||| x <<< (32 - k) % 2 ^ 32

/-- The four words of the message schedule that the next one needs, kept newest first. -/
def shaExpand : Nat → List Nat → List Nat
  | 0, w => w.reverse
  | k + 1, w =>
    let a := w.getD 1 0
    let b := w.getD 6 0
    let c := w.getD 14 0
    let d := w.getD 15 0
    let s1 := ror32 a 17 ^^^ ror32 a 19 ^^^ a >>> 10
    let s0 := ror32 c 7 ^^^ ror32 c 18 ^^^ c >>> 3
    shaExpand k (((s1 + b + s0 + d) % 2 ^ 32) :: w)

/-- The eight working variables of SHA-256. -/
structure ShaVars where
  a : Nat
  b : Nat
  c : Nat
  d : Nat
  e : Nat
  f : Nat
  g : Nat
  h : Nat
deriving DecidableEq, Repr

/-- One round of SHA-256. -/
def shaRound (v : ShaVars) (kw : Nat × Nat) : ShaVars :=
  let s1 := ror32 v.e 6 ^^^ ror32 v.e 11 ^^^ ror32 v.e 25
  let ch := v.e &&& v.f ^^^ (v.e ^^^ 0xFFFFFFFF) &&& v.g
  let t1 := (v.h + s1 + ch + kw.1 + kw.2) % 2 ^ 32
  let s0 := ror32 v.a 2 ^^^ ror32 v.a 13 ^^^ ror32 v.a 22
  let maj := v.a &&& v.b ^^^ v.a &&& v.c ^^^ v.b &&& v.c
  let t2 := (s0 + maj) % 2 ^ 32
  ⟨(t1 + t2) % 2 ^ 32, v.a, v.b, v.c, (v.d + t1) % 2 ^ 32, v.e, v.f, v.g⟩

/-- One block of SHA-256, as sixteen 32-bit words. -/
def shaBlock (h : List Nat) (blk : List Nat) : List Nat :=
  let w := shaExpand 48 blk.reverse
  let v0 : ShaVars := ⟨h.getD 0 0, h.getD 1 0, h.getD 2 0, h.getD 3 0, h.getD 4 0, h.getD 5 0, h.getD 6 0, h.getD 7 0⟩
  let v := (shaK.zip w).foldl shaRound v0
  (h.zip [v.a, v.b, v.c, v.d, v.e, v.f, v.g, v.h]).map (fun p => (p.1 + p.2) % 2 ^ 32)

/-- 32-bit words of a bit string. -/
def shaWords (n : Nat) : Nat → List Nat
  | 0 => []
  | k + 1 => (n / 2 ^ (32 * k)) % 2 ^ 32 :: shaWords n k

/-- The blocks of sixteen words, by fuel. -/
def shaBlocks : Nat → List Nat → List Nat → List Nat
  | 0, h, _ => h
  | k + 1, h, ws => shaBlocks k (shaBlock h (ws.take 16)) (ws.drop 16)

/-- SHA-256 of a message of `len` bits held in a number, most significant bit first: the 256-bit digest. -/
def sha256 (msg len : Nat) : Nat :=
  let blocks := (len + 1 + 64 + 511) / 512
  let pad := blocks * 512 - len - 1 - 64
  let n := ((msg * 2 + 1) * 2 ^ pad) * 2 ^ 64 + len
  (shaBlocks blocks shaInit (shaWords n (16 * blocks))).foldl (fun a x => a * 2 ^ 32 + x) 0

end Sys2Proof.Machine
end

