-- ==== Sys2Proof/Machine/Map.lean ====
section
/-! DEFINITION. The parameter maps of the FV die and of the BN die, from the parameter tables and field maps of the spec
(R78-R80, R109, R146-R148, R494, R558 for the FV die; R177, R210, R276, R307, R332, R364, R392, R426, R458-R461, R492, R493,
R521, R539, R559 for the BN die). Each row names its words by base, stride and count, the bits of each access (R18), and the
reset value (R20; log entry 1 for the words whose Reset column is a dash). -/

namespace Sys2Proof.Machine

/-- One row of a parameter map: the words at `base + stride·i`, `i < count`, their bits by access, and their reset value. -/
structure PRow where
  base : Nat
  stride : Nat
  count : Nat
  rw : Nat
  w1c : Nat
  st : Nat
  ao : Nat
  reset : Nat
deriving DecidableEq, Repr

/-- Whether a row holds an offset. -/
def PRow.holds (r : PRow) (off : Nat) : Bool :=
  r.base ≤ off && (off - r.base) % r.stride == 0 && (off - r.base) / r.stride < r.count

/-- The row of an offset; `none` for a reserved offset. -/
def rowOf (m : List PRow) (off : Nat) : Option PRow := m.find? (·.holds off)

/-- Parameter words of the FV die, part 0. -/
def fvRows0 : List PRow := [
  ⟨0x0, 1, 1, 0x0, 0x0, 0x0, 0x0, 0x15A41⟩ /- FV_PART_ID -/,
  ⟨0x1, 1, 1, 0x0, 0x0, 0x0, 0x0, 0x2000⟩ /- FV_INFO -/,
  ⟨0x2, 1, 2, 0x0, 0x0, 0x0, 0x0, 0x0⟩ /- DIE_SERIAL -/,
  ⟨0x4, 1, 1, 0x0, 0x0, 0x0, 0x0, 0x0⟩ /- FV_TEST -/,
  ⟨0x5, 1, 1, 0x0, 0x0, 0x0, 0x0, 0x0⟩ /- RING_FIRST -/,
  ⟨0x400, 1, 1, 0x0, 0x80000, 0x0, 0x0, 0x0⟩ /- STATUS -/,
  ⟨0x401, 1, 1, 0x0, 0x0, 0x0, 0x0, 0x0⟩ /- SILENT -/,
  ⟨0x402, 1, 1, 0x0, 0x0, 0x0, 0x0, 0x0⟩ /- SWITCHES -/,
  ⟨0x403, 1, 1, 0x20000, 0x0, 0x0, 0x0, 0x0⟩ /- IMPRESS -/,
  ⟨0x800, 1, 4, 0x0, 0x0, 0x0, 0x3FF, 0xC8⟩ /- HI_DAC0-HI_DAC3 -/,
  ⟨0x804, 1, 4, 0x0, 0x0, 0x0, 0x3FF, 0x50⟩ /- LO_DAC0-LO_DAC3 -/,
  ⟨0x808, 1, 1, 0x0, 0x0, 0x0, 0x3, 0x0⟩ /- BIAS -/,
  ⟨0x809, 1, 1, 0x3, 0x0, 0x0, 0x0, 0x1⟩ /- PREAMP -/,
  ⟨0x80A, 1, 1, 0xCFFFF, 0x0, 0x0, 0x0, 0x10⟩ /- COUNT_CTRL -/,
  ⟨0x1000, 2, 1024, 0x20, 0x0, 0x0, 0xFFF50, 0x82050⟩ /- CH_CFG -/,
  ⟨0x1001, 2, 1024, 0x0, 0x80000, 0x0, 0x0, 0x0⟩ /- CH_COUNT -/,
  ⟨0x1800, 1, 4, 0xFF, 0x0, 0x0, 0x0, 0x0⟩ /- INJ_AMP0-INJ_AMP3 -/,
  ⟨0x1804, 1, 1, 0x1FF, 0x0, 0x0, 0x0, 0x0⟩ /- INJ_TIME -/,
  ⟨0x1805, 1, 1, 0xFF, 0x0, 0x0, 0x0, 0x10⟩ /- INJ_DELAY -/,
  ⟨0x1806, 1, 1, 0xFFFF, 0x0, 0x0, 0x0, 0x1⟩ /- INJ_PERIOD -/,
  ⟨0x1807, 1, 1, 0xFFFF, 0x0, 0x0, 0x0, 0x1⟩ /- INJ_COUNT -/,
  ⟨0x1808, 1, 1, 0x0, 0x40000, 0x0, 0x0, 0x0⟩ /- INJ_STATUS -/,
  ⟨0x1809, 1, 4, 0x0, 0x0, 0x0, 0x0, 0x0⟩ /- INJ_GAIN0-INJ_GAIN3 -/,
  ⟨0x1C00, 1, 1, 0x80000, 0x0, 0x0, 0x3F, 0x8⟩ /- TDC_CTRL -/]

/-- Parameter words of the FV die, part 1. -/
def fvRows1 : List PRow := [
  ⟨0x1C01, 1, 1, 0x0, 0x0, 0x0, 0x0, 0xC8000⟩ /- SCALE -/,
  ⟨0x1C02, 1, 1, 0x0, 0x0, 0x0, 0x0, 0x0⟩ /- SCALE_XC -/,
  ⟨0x1C04, 1, 1, 0x7FF, 0x0, 0x0, 0x0, 0x0⟩ /- CNT_SEL -/,
  ⟨0x1C05, 1, 1, 0x0, 0x0, 0x0, 0x0, 0x0⟩ /- ORDER_CNT -/,
  ⟨0x1C06, 1, 1, 0x0, 0x0, 0x0, 0x0, 0x0⟩ /- PILEUP_CNT -/,
  ⟨0x1C07, 1, 1, 0x0, 0x0, 0x0, 0x0, 0x0⟩ /- CALFAIL_CNT -/,
  ⟨0x1C08, 1, 4, 0x0, 0x0, 0x0, 0x0, 0x0⟩ /- PHASE_MON0-PHASE_MON3 -/,
  ⟨0x1C0C, 1, 4, 0x0, 0x0, 0x0, 0x0, 0x0⟩ /- TAP_DROP0-TAP_DROP3 -/,
  ⟨0x1C10, 1, 16, 0x803FF, 0x0, 0x0, 0x0, 0x0⟩ /- TAP_SEL0-TAP_SEL15 -/,
  ⟨0x2000, 1, 4, 0x0, 0x0, 0x0, 0x0, 0x0⟩ /- OVF_CNT0-OVF_CNT3 -/,
  ⟨0x2004, 1, 4, 0x0, 0x0, 0x0, 0x0, 0x0⟩ /- LDROP_CNT0-LDROP_CNT3 -/,
  ⟨0x2008, 1, 4, 0x0, 0x0, 0x0, 0x0, 0x0⟩ /- FILL0-FILL3 -/,
  ⟨0x200C, 1, 1, 0x80000, 0x0, 0x0, 0x3F, 0x30⟩ /- TRAY_CTRL -/,
  ⟨0x200D, 1, 1, 0x0, 0x0, 0x0, 0x0, 0x0⟩ /- NOTICE_CNT -/,
  ⟨0x200E, 1, 1, 0x0, 0x0, 0x0, 0x0, 0x0⟩ /- NOTICE_DEFER -/,
  ⟨0x200F, 1, 1, 0x0, 0x0, 0x0, 0x0, 0x0⟩ /- NOTICE_FULL -/,
  ⟨0x2400, 1, 132, 0x20000, 0x0, 0x0, 0x0, 0x20000⟩ /- FDOM_0-131 -/,
  ⟨0x2484, 1, 3, 0x0, 0x0, 0x0, 0x0, 0x0⟩ /- FDOM_132-134 -/,
  ⟨0x2800, 1, 1, 0x0, 0x0, 0x0, 0x0, 0x0⟩ /- LIG_STATUS -/,
  ⟨0x2801, 1, 1, 0x0, 0x0, 0x0, 0x0, 0x0⟩ /- CRC_ERR_A -/,
  ⟨0x2802, 1, 1, 0x0, 0x0, 0x0, 0x0, 0x0⟩ /- CRC_ERR_B -/,
  ⟨0x2803, 1, 1, 0x0, 0x0, 0x0, 0x0, 0x0⟩ /- REQ_DROP -/,
  ⟨0x2804, 1, 1, 0x80000, 0x0, 0x0, 0x0, 0x0⟩ /- LIG_CTRL -/]

/-- The parameter map of the FV die. -/
def fvMap : List PRow := fvRows0 ++ fvRows1

/-- Parameter words of the BN die, part 0. -/
def bnRows0 : List PRow := [
  ⟨0x0, 1, 1, 0x0, 0x0, 0x0, 0x0, 0x15A40⟩ /- PART_ID -/,
  ⟨0x1, 1, 1, 0x0, 0x0, 0x0, 0x0, 0x2000⟩ /- VARIANT_ID -/,
  ⟨0x2, 1, 4, 0x0, 0x0, 0x0, 0x0, 0x0⟩ /- PKG_SERIAL -/,
  ⟨0x6, 1, 2, 0x0, 0x0, 0x0, 0x0, 0x0⟩ /- DIE_SERIAL -/,
  ⟨0x8, 1, 1, 0x0, 0x0, 0x0, 0x0, 0x0⟩ /- ROM_VER -/,
  ⟨0x9, 1, 1, 0x0, 0x0, 0x0, 0x0, 0x0⟩ /- PATCHES -/,
  ⟨0x400, 1, 1, 0x800, 0x20000, 0x0, 0x0, 0x0⟩ /- SESS_STATUS -/,
  ⟨0x401, 1, 1, 0x0, 0x0, 0x0, 0xFFF, 0x258⟩ /- SESS_TIMEOUT -/,
  ⟨0x402, 1, 1, 0x0, 0x0, 0x0, 0x0, 0x0⟩ /- FAIL_A -/,
  ⟨0x403, 1, 1, 0x0, 0x0, 0x0, 0x0, 0x0⟩ /- FAIL_B -/,
  ⟨0x404, 1, 1, 0x0, 0x0, 0x0, 0x0, 0x0⟩ /- LOCK_LEFT_A -/,
  ⟨0x405, 1, 1, 0x0, 0x0, 0x0, 0x0, 0x0⟩ /- LOCK_LEFT_B -/,
  ⟨0x406, 1, 1, 0x0, 0x0, 0x0, 0x0, 0x0⟩ /- IDLE_LEFT -/,
  ⟨0x407, 1, 1, 0x0, 0x0, 0x0, 0x0, 0x0⟩ /- SLOT_A -/,
  ⟨0x408, 1, 1, 0x0, 0x0, 0x0, 0x0, 0x0⟩ /- SLOT_B -/,
  ⟨0x409, 1, 1, 0x0, 0x0, 0x0, 0x0, 0x0⟩ /- PKT_CNT -/,
  ⟨0x40A, 1, 1, 0x0, 0x0, 0x0, 0x0, 0x0⟩ /- PKT_ERR -/,
  ⟨0x40B, 1, 1, 0x0, 0x0, 0x0, 0x0, 0x0⟩ /- PKT_TIMEOUT -/,
  ⟨0x40C, 1, 1, 0x0, 0x0, 0x0, 0x0, 0x0⟩ /- PKT_BUSY -/,
  ⟨0x800, 1, 1, 0x0, 0x0, 0x0, 0x0, 0x0⟩ /- STAGE_STATUS -/,
  ⟨0x801, 1, 1, 0x0, 0x0, 0x0, 0x0, 0x0⟩ /- PENDING_ASLEEP -/,
  ⟨0x802, 1, 2, 0x0, 0x0, 0x0, 0x0, 0x0⟩ /- STAGED_CRC -/,
  ⟨0x804, 1, 2, 0x0, 0x0, 0x0, 0x0, 0x0⟩ /- LIVE_CRC -/,
  ⟨0x806, 1, 2, 0x0, 0x0, 0x0, 0x0, 0x0⟩ /- PARTNER_CRC -/]

/-- Parameter words of the BN die, part 1. -/
def bnRows1 : List PRow := [
  ⟨0x808, 1, 1, 0x0, 0x0, 0x0, 0x0, 0x0⟩ /- ARMED_XC0 -/,
  ⟨0x809, 1, 1, 0x0, 0x0, 0x0, 0x0, 0x0⟩ /- ARMED_XC1 -/,
  ⟨0x80A, 1, 1, 0x0, 0x0, 0x0, 0x0, 0x0⟩ /- ARMED_XC2 -/,
  ⟨0x80B, 1, 1, 0x0, 0x0, 0x0, 0x0, 0x0⟩ /- IMPRESS_RESULT -/,
  ⟨0x80C, 1, 1, 0x0, 0x0, 0x0, 0x0, 0x0⟩ /- LAST_XC0 -/,
  ⟨0x80D, 1, 1, 0x0, 0x0, 0x0, 0x0, 0x0⟩ /- LAST_XC1 -/,
  ⟨0x80E, 1, 1, 0x0, 0x0, 0x0, 0x0, 0x0⟩ /- LAST_XC2 -/,
  ⟨0x80F, 1, 1, 0x0, 0x0, 0x0, 0x0, 0x0⟩ /- GO_MISS -/,
  ⟨0xC00, 1, 1, 0x0, 0x0, 0x0, 0x0, 0x0⟩ /- BOOT_STATUS -/,
  ⟨0xC01, 1, 1, 0x0, 0x0, 0x0, 0x0, 0x0⟩ /- BOOT_CNT -/,
  ⟨0xC02, 1, 1, 0x0, 0x0, 0x0, 0xFFF, 0xA⟩ /- BOOT_DEADLINE -/,
  ⟨0xC03, 1, 1, 0x0, 0x0, 0x0, 0x0, 0x0⟩ /- DEADLINE_LEFT -/,
  ⟨0xC04, 1, 1, 0x0, 0x0, 0x0, 0x0, 0x0⟩ /- WD_CNT -/,
  ⟨0xC05, 1, 1, 0x0, 0x0, 0x0, 0x0, 0x0⟩ /- READY_TIME -/,
  ⟨0xC06, 1, 1, 0x0, 0x0, 0x0, 0x0, 0x0⟩ /- LIG_BOOT -/,
  ⟨0xC07, 1, 1, 0x0, 0x0, 0x0, 0x0, 0x0⟩ /- THERM_LOG -/,
  ⟨0xC08, 1, 1, 0x80000, 0x0, 0x0, 0x0, 0x0⟩ /- BOOT_CTRL -/,
  ⟨0x1000, 1, 1, 0x0, 0x1D000, 0x0, 0x0, 0x0⟩ /- POWER_STATUS -/,
  ⟨0x1001, 1, 1, 0x80000, 0x0, 0x0, 0x0, 0x0⟩ /- POWER_CTRL -/,
  ⟨0x1002, 1, 1, 0x0, 0x0, 0x7FFF, 0x0, 0x4000⟩ /- DOZE_RUN_MAX -/,
  ⟨0x1003, 1, 1, 0x0, 0x0, 0x0, 0x0, 0x0⟩ /- DOZE_ENTRY -/,
  ⟨0x1004, 1, 1, 0x0, 0x0, 0x0, 0x0, 0x0⟩ /- DOZE_EXIT -/,
  ⟨0x1005, 1, 1, 0x0, 0x0, 0x0, 0x0, 0x0⟩ /- DOZE_GAP_FIRST -/,
  ⟨0x1006, 1, 1, 0x0, 0x0, 0x0, 0x0, 0x0⟩ /- DOZE_GAP_LAST -/]

/-- Parameter words of the BN die, part 2. -/
def bnRows2 : List PRow := [
  ⟨0x1007, 1, 1, 0x0, 0x0, 0x0, 0x0, 0x0⟩ /- DOZE_BIAS -/,
  ⟨0x1008, 1, 1, 0x0, 0x0, 0x0, 0x0, 0x0⟩ /- DOZE_CNT -/,
  ⟨0x1009, 1, 1, 0x0, 0x0, 0x0, 0x0, 0x0⟩ /- WAKE_FAIL_CNT -/,
  ⟨0x100A, 1, 1, 0x0, 0x80000, 0x0, 0x0, 0x0⟩ /- PANTRY_STATUS -/,
  ⟨0x100B, 1, 1, 0x0, 0x0, 0x0, 0x0, 0x0⟩ /- PANTRY_CORR -/,
  ⟨0x100C, 1, 1, 0x0, 0x0, 0x0, 0x0, 0x0⟩ /- PANTRY_UNCORR -/,
  ⟨0x100D, 1, 1, 0x0, 0x0, 0x0, 0x0, 0x0⟩ /- FAILED_SUM -/,
  ⟨0x1100, 1, 170, 0x0, 0x0, 0x0, 0x0, 0x0⟩ /- DOM_d -/,
  ⟨0x1400, 1, 1, 0x0, 0x800, 0x0, 0x0, 0x0⟩ /- CLK_STATUS -/,
  ⟨0x1401, 1, 1, 0xC0000, 0x0, 0x0, 0x0, 0x80000⟩ /- CLK_SEL -/,
  ⟨0x1402, 1, 1, 0x0, 0x0, 0x0, 0x0, 0x0⟩ /- CLK_LOSS_CNT -/,
  ⟨0x1403, 1, 1, 0x0, 0x0, 0x0, 0x0, 0x0⟩ /- CLK_LAST -/,
  ⟨0x1404, 1, 1, 0x0, 0x0, 0x0, 0x0, 0x0⟩ /- TOSC_MEAS -/,
  ⟨0x1405, 1, 1, 0x0, 0x0, 0x0, 0x0, 0x0⟩ /- TOSC_TRIM -/,
  ⟨0x1406, 1, 1, 0x0, 0x0, 0x0, 0x0, 0x0⟩ /- SWITCH_CNT -/,
  ⟨0x1407, 1, 1, 0x0, 0x0, 0x0, 0x0, 0x0⟩ /- XO_FAIL_CNT -/,
  ⟨0x1408, 1, 1, 0x80000, 0x0, 0x0, 0x0, 0x0⟩ /- CLK_CTRL -/,
  ⟨0x1800, 1, 1, 0x0, 0x8000, 0x0, 0x0, 0x0⟩ /- TIME_STATUS -/,
  ⟨0x1801, 1, 1, 0xC0000, 0x0, 0x0, 0x0, 0x0⟩ /- TIME_CTRL -/,
  ⟨0x1802, 1, 1, 0x0, 0x0, 0x0, 0x0, 0x0⟩ /- XC_SNAP0 -/,
  ⟨0x1803, 1, 1, 0x0, 0x0, 0x0, 0x0, 0x0⟩ /- XC_SNAP1 -/,
  ⟨0x1804, 1, 1, 0x0, 0x0, 0x0, 0x0, 0x0⟩ /- XC_SNAP2 -/,
  ⟨0x1805, 1, 4, 0x0, 0x0, 0x0, 0x0, 0x0⟩ /- NOW_Q0-NOW_Q3 -/,
  ⟨0x1809, 1, 1, 0x0, 0x0, 0x0, 0x0, 0x0⟩ /- RATE_LO -/]

/-- Parameter words of the BN die, part 3. -/
def bnRows3 : List PRow := [
  ⟨0x180A, 1, 1, 0x0, 0x0, 0x0, 0x0, 0x0⟩ /- RATE_HI -/,
  ⟨0x180B, 1, 1, 0x0, 0x0, 0x0, 0x0, 0xC8000⟩ /- SCALE_OUT -/,
  ⟨0x180C, 1, 1, 0x0, 0x0, 0x0, 0xFFFFF, 0x0⟩ /- ASYM -/,
  ⟨0x180D, 1, 1, 0x0, 0x0, 0x0, 0x0, 0x0⟩ /- RX_CORR -/,
  ⟨0x180E, 1, 1, 0x0, 0x0, 0x0, 0x0, 0x0⟩ /- TX_CORR -/,
  ⟨0x180F, 1, 1, 0x0, 0x0, 0x0, 0x0, 0x0⟩ /- EXCH_STATUS -/,
  ⟨0x1810, 1, 4, 0xFFFFF, 0x0, 0x0, 0x0, 0x0⟩ /- T1_Q0-T1_Q3 -/,
  ⟨0x1814, 1, 4, 0x0, 0x0, 0x0, 0x0, 0x0⟩ /- T2_Q0-T2_Q3 -/,
  ⟨0x1818, 1, 4, 0x0, 0x0, 0x0, 0x0, 0x0⟩ /- T3_Q0-T3_Q3 -/,
  ⟨0x181C, 1, 4, 0xFFFFF, 0x0, 0x0, 0x0, 0x0⟩ /- T4_Q0-T4_Q3 -/,
  ⟨0x1820, 1, 2, 0x0, 0x0, 0x0, 0x0, 0x0⟩ /- OFFSET -/,
  ⟨0x1822, 1, 2, 0x0, 0x0, 0x0, 0x0, 0x0⟩ /- DELAY -/,
  ⟨0x1824, 1, 1, 0x0, 0x0, 0x0, 0x0, 0x0⟩ /- CDC_ABORT -/,
  ⟨0x1825, 1, 1, 0x0, 0x0, 0x0, 0x0, 0x0⟩ /- STEP_XC -/,
  ⟨0x1C00, 1, 1, 0x0, 0x0, 0x0, 0x0, 0x40000⟩ /- LANE_SUM -/,
  ⟨0x1C01, 1, 1, 0x80000, 0x0, 0x0, 0x0, 0x0⟩ /- LANES_CTRL -/,
  ⟨0x1C02, 1, 1, 0x0, 0x0, 0x0, 0x0, 0x0⟩ /- DN_CRC_ERR -/,
  ⟨0x1C03, 1, 1, 0x0, 0x0, 0x0, 0x0, 0x0⟩ /- DN_FT_ERR -/,
  ⟨0x1C04, 1, 1, 0x0, 0x0, 0x0, 0x0, 0x0⟩ /- DN_ABORT -/,
  ⟨0x1C05, 1, 1, 0x0, 0x0, 0x0, 0x0, 0x0⟩ /- XL_CRC_ERR -/,
  ⟨0x1C06, 1, 1, 0x0, 0x0, 0x0, 0x0, 0x0⟩ /- XL_XC_ERR -/,
  ⟨0x1C07, 1, 1, 0x0, 0x0, 0x0, 0x0, 0x0⟩ /- XL_LATE -/,
  ⟨0x1C08, 1, 1, 0x0, 0x0, 0x0, 0x0, 0x0⟩ /- XL_DOWN_CNT -/,
  ⟨0x1C09, 1, 1, 0x0, 0x0, 0x0, 0x0, 0x0⟩ /- XL_SILENT -/]

/-- Parameter words of the BN die, part 4. -/
def bnRows4 : List PRow := [
  ⟨0x1C10, 8, 7, 0x0, 0x6000, 0x0, 0x0, 0x0⟩ /- LSTATL -/,
  ⟨0x1C11, 8, 7, 0xFFF00, 0x0, 0x0, 0xFF, 0x84⟩ /- LCFGL -/,
  ⟨0x1C12, 8, 7, 0xC00FF, 0x0, 0x0, 0x0, 0x0⟩ /- LINJL -/,
  ⟨0x1C13, 8, 7, 0x0, 0x0, 0x0, 0x0, 0x0⟩ /- PERR w0 -/,
  ⟨0x1C14, 8, 7, 0x0, 0x0, 0x0, 0x0, 0x0⟩ /- PERR w1 -/,
  ⟨0x1C15, 8, 7, 0x0, 0x0, 0x0, 0x0, 0x0⟩ /- LOS_CNTL -/,
  ⟨0x1C16, 8, 7, 0x0, 0x0, 0x0, 0x0, 0x0⟩ /- LOL_CNTL -/,
  ⟨0x2000, 1, 1, 0x0, 0x2040, 0x0, 0x0, 0x1000⟩ /- LEASE_STATUS -/,
  ⟨0x2001, 1, 1, 0x0, 0x0, 0x0, 0xC0000, 0x40000⟩ /- LEASE_PREF -/,
  ⟨0x2002, 1, 1, 0x0, 0x0, 0x1F0F, 0x0, 0x802⟩ /- LEASE_CFG -/,
  ⟨0x2003, 1, 1, 0x0, 0x0, 0x7FF, 0x0, 0x40⟩ /- GUARD -/,
  ⟨0x2004, 1, 1, 0x0, 0x0, 0xFFFFF, 0x0, 0x400⟩ /- REVERT_K -/,
  ⟨0x2005, 1, 1, 0x0, 0x0, 0x0, 0x0, 0x0⟩ /- EXPIRY0 -/,
  ⟨0x2006, 1, 1, 0x0, 0x0, 0x0, 0x0, 0x0⟩ /- EXPIRY1 -/,
  ⟨0x2007, 1, 1, 0x0, 0x0, 0x0, 0x0, 0x0⟩ /- EXPIRY2 -/,
  ⟨0x2008, 1, 1, 0x0, 0x0, 0x0, 0x0, 0x0⟩ /- ACK_SEQ -/,
  ⟨0x2009, 1, 1, 0x0, 0x0, 0x0, 0x0, 0x0⟩ /- TX_NEXT -/,
  ⟨0x200A, 1, 1, 0x0, 0x0, 0x0, 0x0, 0x0⟩ /- LAG -/,
  ⟨0x200B, 1, 1, 0x0, 0x0, 0x0, 0x0, 0x0⟩ /- JUNCTION -/,
  ⟨0x200C, 1, 1, 0x0, 0x0, 0x0, 0x0, 0x0⟩ /- TK_INFO -/,
  ⟨0x200D, 1, 1, 0x0, 0x0, 0x0, 0x0, 0x0⟩ /- REPLAY_FROM -/,
  ⟨0x200E, 1, 1, 0x0, 0x0, 0x0, 0x0, 0x0⟩ /- HOLD_FIRST -/,
  ⟨0x200F, 1, 1, 0x0, 0x0, 0x0, 0x0, 0x0⟩ /- HOLD_LAST -/,
  ⟨0x2010, 1, 1, 0x0, 0x0, 0x0, 0x0, 0x0⟩ /- MISMATCH_RUN -/]

/-- Parameter words of the BN die, part 5. -/
def bnRows5 : List PRow := [
  ⟨0x2011, 1, 1, 0x0, 0x0, 0x0, 0x0, 0x0⟩ /- MISMATCH_CNT -/,
  ⟨0x2012, 1, 1, 0x0, 0x0, 0x0, 0x0, 0x0⟩ /- FIRST_MISMATCH -/,
  ⟨0x2013, 1, 1, 0x0, 0x0, 0x0, 0x0, 0x0⟩ /- GRANT_CNT -/,
  ⟨0x2014, 1, 1, 0x0, 0x0, 0x0, 0x0, 0x0⟩ /- REFUSE_CNT -/,
  ⟨0x2015, 1, 1, 0x0, 0x0, 0x0, 0x0, 0x0⟩ /- EXPIRE_CNT -/,
  ⟨0x2016, 1, 1, 0x0, 0x0, 0x0, 0x0, 0x0⟩ /- HANDOVER_CNT -/,
  ⟨0x2017, 1, 1, 0x0, 0x0, 0x0, 0x0, 0x0⟩ /- HO_FAIL_CNT -/,
  ⟨0x2018, 1, 1, 0x80000, 0x0, 0x0, 0x0, 0x0⟩ /- LEASE_CTRL -/,
  ⟨0x2400, 1, 1, 0xC0000, 0x0, 0x0, 0x0, 0x0⟩ /- ACQ_CMD -/,
  ⟨0x2401, 1, 1, 0x0, 0x10004, 0x0, 0x0, 0x0⟩ /- ACQ_STATUS -/,
  ⟨0x2402, 1, 1, 0xFFFFF, 0x0, 0x0, 0x0, 0x0⟩ /- ACQ_AT0 -/,
  ⟨0x2403, 1, 1, 0xFFFFF, 0x0, 0x0, 0x0, 0x0⟩ /- ACQ_AT1 -/,
  ⟨0x2404, 1, 1, 0xFF, 0x0, 0x0, 0x0, 0x0⟩ /- ACQ_AT2 -/,
  ⟨0x2405, 1, 1, 0x0, 0x0, 0x0, 0x0, 0x0⟩ /- START_XC0 -/,
  ⟨0x2406, 1, 1, 0x0, 0x0, 0x0, 0x0, 0x0⟩ /- START_XC1 -/,
  ⟨0x2407, 1, 1, 0x0, 0x0, 0x0, 0x0, 0x0⟩ /- START_XC2 -/,
  ⟨0x2408, 1, 1, 0x0, 0x0, 0x0, 0x0, 0x0⟩ /- STOP_XC0 -/,
  ⟨0x2409, 1, 1, 0x0, 0x0, 0x0, 0x0, 0x0⟩ /- STOP_XC1 -/,
  ⟨0x240A, 1, 1, 0x0, 0x0, 0x0, 0x0, 0x0⟩ /- STOP_XC2 -/,
  ⟨0x240B, 1, 1, 0x0, 0x0, 0x3FF, 0x0, 0x100⟩ /- STOP_DRAIN -/,
  ⟨0x240C, 1, 1, 0x0, 0x0, 0x3FF, 0x0, 0x0⟩ /- TRIG_LAT -/,
  ⟨0x240D, 1, 1, 0x0, 0x0, 0x3FF, 0x0, 0x0⟩ /- DENSE_PRE -/,
  ⟨0x240E, 1, 1, 0x0, 0x0, 0xFFFFF, 0x0, 0x0⟩ /- DENSE_POST -/,
  ⟨0x240F, 1, 1, 0x0, 0x0, 0xFFFFF, 0x0, 0x1⟩ /- DENSE_MAX -/]

/-- Parameter words of the BN die, part 6. -/
def bnRows6 : List PRow := [
  ⟨0x2410, 1, 1, 0x0, 0x0, 0x7FF, 0x0, 0x40⟩ /- DENSE_RING -/,
  ⟨0x2411, 1, 1, 0x0, 0x0, 0xFFFF, 0x0, 0x0⟩ /- DENSE_SEL -/,
  ⟨0x2412, 1, 1, 0x0, 0x0, 0x1, 0x0, 0x0⟩ /- DENSE_CTRL -/,
  ⟨0x2413, 1, 1, 0x0, 0x0, 0x80003, 0x0, 0x80000⟩ /- RR_CTRL -/,
  ⟨0x2414, 1, 1, 0x0, 0x0, 0x1FFF, 0x0, 0x0⟩ /- TOT_CUT_BASE -/,
  ⟨0x2415, 1, 1, 0x0, 0x0, 0x1FFF, 0x0, 0x8⟩ /- TOT_STEP -/,
  ⟨0x2416, 1, 1, 0x0, 0x0, 0xFFFF, 0x0, 0x400⟩ /- TOT_DWELL -/,
  ⟨0x2417, 1, 1, 0x0, 0x0, 0x1FFF, 0x0, 0x80⟩ /- TOT_CUT_MAX -/,
  ⟨0x2418, 1, 1, 0x0, 0x0, 0x0, 0x0, 0x0⟩ /- TOTCUT -/,
  ⟨0x2419, 1, 1, 0x0, 0x0, 0x0, 0x0, 0x0⟩ /- TRIG_CNT -/,
  ⟨0x241A, 1, 1, 0x0, 0x0, 0x0, 0x0, 0x0⟩ /- TRIG_IGNORED -/,
  ⟨0x241B, 1, 3, 0x0, 0x0, 0x0, 0x0, 0x0⟩ /- LVL1_XC-LVL3_XC -/,
  ⟨0x241E, 1, 1, 0x80000, 0x0, 0x0, 0x0, 0x0⟩ /- ACQ_CTRL -/,
  ⟨0x2440, 1, 64, 0x0, 0x0, 0x0, 0x1F, 0x0⟩ /- HK_AVG0-HK_AVG63 -/,
  ⟨0x2800, 1, 1, 0x0, 0x0, 0x80007, 0x0, 0x80004⟩ /- SHEET_CFG -/,
  ⟨0x2801, 1, 1, 0x0, 0x0, 0x0, 0x0, 0x0⟩ /- SHEET_STATUS -/,
  ⟨0x2802, 1, 1, 0x0, 0x0, 0x0, 0x0, 0x0⟩ /- LAST_SEQ -/,
  ⟨0x2803, 1, 1, 0x0, 0x0, 0x0, 0x0, 0x0⟩ /- LAST_LEN -/,
  ⟨0x2804, 1, 1, 0x0, 0x0, 0x0, 0x0, 0x0⟩ /- PEAK_LEN -/,
  ⟨0x2805, 1, 1, 0x0, 0x0, 0x0, 0x0, 0x0⟩ /- OVERRUN_CNT -/,
  ⟨0x2806, 1, 1, 0x0, 0x0, 0x0, 0x0, 0x0⟩ /- KEY_CNT -/,
  ⟨0x2807, 1, 1, 0x80000, 0x0, 0x0, 0x0, 0x0⟩ /- SHEET_CTRL -/,
  ⟨0x2C00, 1, 1, 0x80000, 0x0, 0x0, 0x0, 0x0⟩ /- GAL_CTRL -/,
  ⟨0x2C01, 1, 1, 0x0, 0x30000, 0x0, 0x0, 0x0⟩ /- GAL_STATUS -/]

/-- Parameter words of the BN die, part 7. -/
def bnRows7 : List PRow := [
  ⟨0x2C02, 1, 1, 0x0, 0x0, 0x0, 0x0, 0x30000⟩ /- FREE_CELLS -/,
  ⟨0x2C03, 1, 1, 0x0, 0x0, 0x0, 0x0, 0x0⟩ /- BUMP -/,
  ⟨0x2C04, 1, 1, 0x0, 0x0, 0x0, 0x0, 0x0⟩ /- WATCH_OCC -/,
  ⟨0x2C05, 1, 1, 0x0, 0x0, 0x3FFFF, 0x0, 0x10000⟩ /- WM_HIGH1 -/,
  ⟨0x2C06, 1, 1, 0x0, 0x0, 0x3FFFF, 0x0, 0xC000⟩ /- WM_LOW1 -/,
  ⟨0x2C07, 1, 1, 0x0, 0x0, 0x3FFFF, 0x0, 0x14000⟩ /- WM_HIGH2 -/,
  ⟨0x2C08, 1, 1, 0x0, 0x0, 0x3FFFF, 0x0, 0x10000⟩ /- WM_LOW2 -/,
  ⟨0x2C09, 1, 1, 0x0, 0x0, 0x3FFFF, 0x0, 0x18000⟩ /- WM_HIGH3 -/,
  ⟨0x2C0A, 1, 1, 0x0, 0x0, 0x3FFFF, 0x0, 0x14000⟩ /- WM_LOW3 -/,
  ⟨0x2C0B, 1, 1, 0x0, 0x0, 0x0, 0x0, 0x0⟩ /- WM_FLAGS -/,
  ⟨0x2C0C, 1, 1, 0x0, 0x0, 0x0, 0x0, 0x0⟩ /- CORR_CNT -/,
  ⟨0x2C0D, 1, 1, 0x0, 0x0, 0x0, 0x0, 0x0⟩ /- UNCORR_CNT -/,
  ⟨0x2C0E, 1, 1, 0x0, 0x0, 0x0, 0x0, 0x0⟩ /- AFAULT_CNT -/,
  ⟨0x2C0F, 1, 1, 0x0, 0x0, 0x0, 0x0, 0x0⟩ /- LINK_FAULT_CNT -/,
  ⟨0x2C10, 1, 1, 0x0, 0x0, 0x0, 0x0, 0x0⟩ /- LEAKED -/,
  ⟨0x2C11, 1, 1, 0x0, 0x0, 0x0, 0x0, 0x0⟩ /- ERR_LAST -/,
  ⟨0x2C12, 1, 1, 0x8003F, 0x0, 0x0, 0x0, 0x80001⟩ /- SCRUB_AUTO -/,
  ⟨0x2C13, 1, 1, 0x0, 0x0, 0x0, 0x0, 0x0⟩ /- SCRUB_STATE -/,
  ⟨0x2C14, 1, 8, 0x0, 0x0, 0x0, 0x0, 0x0⟩ /- SCRUB_SUM0-SCRUB_SUM7 -/,
  ⟨0x2C1C, 1, 1, 0x0, 0x0, 0x0, 0x0, 0x0⟩ /- REPLAY_NEWEST -/,
  ⟨0x2C1D, 1, 1, 0x0, 0x0, 0x0, 0x0, 0x0⟩ /- REPLAY_STORED -/,
  ⟨0x2C1E, 1, 1, 0x0, 0x0, 0x0, 0x0, 0x0⟩ /- REPLAY_UNCORR -/,
  ⟨0x2C40, 4, 64, 0x0, 0x0, 0xFFFFF, 0x0, 0x0⟩ /- Q_CFGq -/,
  ⟨0x2C41, 4, 64, 0x0, 0x0, 0x3F, 0x0, 0x34⟩ /- Q_MARKSq -/]

/-- Parameter words of the BN die, part 8. -/
def bnRows8 : List PRow := [
  ⟨0x2C42, 4, 64, 0x0, 0x0, 0x0, 0x0, 0x0⟩ /- Q_OCCq -/,
  ⟨0x2C43, 4, 64, 0x0, 0x38000, 0x0, 0x0, 0x0⟩ /- Q_STATq -/,
  ⟨0x3000, 1, 1, 0x0, 0x1F100, 0x0, 0x0, 0x0⟩ /- HKC_STATUS -/,
  ⟨0x3001, 1, 1, 0xF0000, 0x0, 0x0, 0x0, 0x10000⟩ /- HKC_CTRL -/,
  ⟨0x3002, 1, 1, 0x0, 0x0, 0x0, 0xFFFF, 0x64⟩ /- ROUND_MS -/,
  ⟨0x3003, 1, 1, 0x0, 0x0, 0x0, 0x7F, 0x7⟩ /- SEQ_LEN -/,
  ⟨0x3004, 1, 1, 0x0, 0x0, 0x0, 0xF, 0x3⟩ /- TWIN_K -/,
  ⟨0x3005, 1, 1, 0x0, 0x0, 0x0, 0x0, 0x0⟩ /- ROUND_CNT -/,
  ⟨0x3006, 1, 1, 0x0, 0x0, 0x0, 0x0, 0x0⟩ /- COALESCE_CNT -/,
  ⟨0x3007, 1, 1, 0x0, 0x0, 0x0, 0x0, 0x0⟩ /- URG_CNT -/,
  ⟨0x3008, 1, 1, 0x0, 0x0, 0x0, 0x0, 0x0⟩ /- URG_DROP_CNT -/,
  ⟨0x3009, 1, 1, 0x0, 0x0, 0x0, 0x0, 0x0⟩ /- ABANDON_CNT -/,
  ⟨0x300A, 1, 1, 0x0, 0x0, 0x0, 0x0, 0x0⟩ /- OPEN_CNT -/,
  ⟨0x300B, 1, 1, 0x0, 0x0, 0x0, 0x0, 0x0⟩ /- OVR_CNT -/,
  ⟨0x300C, 1, 1, 0x0, 0x0, 0x0, 0x0, 0x0⟩ /- DISAGREE_CNT -/,
  ⟨0x300D, 1, 1, 0x0, 0x0, 0x0, 0x0, 0x0⟩ /- GUARD_CNT -/,
  ⟨0x300E, 1, 1, 0x0, 0x0, 0x0, 0x0, 0x0⟩ /- BLANK_CNT -/,
  ⟨0x300F, 1, 1, 0x0, 0x0, 0x0, 0x0, 0x0⟩ /- ROUND_LAST -/,
  ⟨0x3010, 1, 1, 0x0, 0x0, 0x0, 0x0, 0x0⟩ /- LAST_OUT0 -/,
  ⟨0x3011, 1, 1, 0x0, 0x0, 0x0, 0x0, 0x0⟩ /- LAST_OUT1 -/,
  ⟨0x3100, 8, 64, 0x0, 0x0, 0x0, 0xFFFFF, 0x0⟩ /- SQ0_e -/,
  ⟨0x3101, 8, 64, 0x0, 0x0, 0x0, 0xFFFFF, 0x0⟩ /- SQ1_e -/,
  ⟨0x3102, 8, 64, 0x0, 0x0, 0x0, 0xFFF3F, 0x0⟩ /- SQ2_e -/,
  ⟨0x3103, 8, 64, 0x0, 0x0, 0x0, 0xFFFFF, 0x0⟩ /- SQ3_e -/]

/-- Parameter words of the BN die, part 9. -/
def bnRows9 : List PRow := [
  ⟨0x3104, 8, 64, 0x0, 0x0, 0x0, 0xFFFFF, 0x0⟩ /- SQ4_e -/,
  ⟨0x3105, 8, 64, 0x0, 0x0, 0x0, 0xFFFFF, 0x0⟩ /- SQ5_e -/,
  ⟨0x3300, 4, 64, 0x0, 0x0, 0x0, 0x0, 0x0⟩ /- RES w0 -/,
  ⟨0x3301, 4, 64, 0x0, 0x0, 0x0, 0x0, 0x0⟩ /- RES w1 -/,
  ⟨0x3302, 4, 64, 0x0, 0x0, 0x0, 0x0, 0x0⟩ /- RES_FLAGS_e -/,
  ⟨0x3400, 1, 1, 0x0, 0x0, 0x0, 0x0, 0x0⟩ /- THERM_STATUS -/,
  ⟨0x3401, 1, 1, 0x0, 0x3C, 0x0, 0x0, 0x0⟩ /- ALERT_STATUS -/,
  ⟨0x3402, 1, 1, 0xFF, 0x0, 0x0, 0x0, 0xFF⟩ /- ALERT_MASK -/,
  ⟨0x3403, 1, 1, 0xFFFFF, 0x0, 0x0, 0x0, 0x7FFFF⟩ /- RISE_HI -/,
  ⟨0x3404, 1, 1, 0xFFFFF, 0x0, 0x0, 0x0, 0x0⟩ /- RISE_LO -/,
  ⟨0x3405, 1, 1, 0x7F, 0x0, 0x0, 0x0, 0x8⟩ /- RATE_W -/,
  ⟨0x3406, 1, 1, 0xF, 0x0, 0x0, 0x0, 0x3⟩ /- PERSIST -/,
  ⟨0x3407, 1, 1, 0xFF, 0x0, 0x0, 0x0, 0x1E⟩ /- GRACE -/,
  ⟨0x3408, 1, 1, 0xFFF, 0x0, 0x0, 0x0, 0x3C⟩ /- HOLD -/,
  ⟨0x3409, 1, 1, 0xF, 0x0, 0x0, 0x0, 0x1⟩ /- SKIP_K -/,
  ⟨0x340A, 1, 1, 0x3F, 0x0, 0x0, 0x0, 0x0⟩ /- SENS_SEL -/,
  ⟨0x340B, 1, 1, 0x0, 0x0, 0x0, 0x0, 0x0⟩ /- SENS_RATE -/,
  ⟨0x340C, 1, 1, 0x0, 0x0, 0x0, 0x0, 0x0⟩ /- SENS_INFO -/,
  ⟨0x340D, 1, 1, 0x0, 0x0, 0x0, 0x0, 0x0⟩ /- DIE_MAX -/,
  ⟨0x340E, 1, 1, 0x0, 0x0, 0x0, 0x0, 0x0⟩ /- TRIP_NEAR_CNT -/,
  ⟨0x340F, 1, 1, 0x0, 0x0, 0x0, 0x0, 0x0⟩ /- ALARM_CNT -/,
  ⟨0x3410, 1, 1, 0x0, 0x0, 0x0, 0x0, 0x0⟩ /- ENFORCE_CNT -/,
  ⟨0x3411, 1, 1, 0x80000, 0x0, 0x0, 0x0, 0x0⟩ /- THERM_CTRL -/,
  ⟨0x3800, 1, 1, 0xFFFF, 0x0, 0x0, 0x0, 0x1⟩ /- STATS_N -/]

/-- Parameter words of the BN die, part 10. -/
def bnRows10 : List PRow := [
  ⟨0x3801, 1, 1, 0x0, 0x0, 0x0, 0x0, 0x0⟩ /- STATS_STATE -/,
  ⟨0x3802, 1, 1, 0x0, 0x0, 0x0, 0x0, 0x0⟩ /- TAP_OPEN -/,
  ⟨0x3C00, 1, 1, 0x8007F, 0x0, 0x0, 0x0, 0x0⟩ /- COMP_SEL -/,
  ⟨0x3C01, 1, 1, 0x0, 0x0, 0x0, 0x0, 0x1⟩ /- ARRIVAL_VER -/,
  ⟨0x3C02, 1, 1, 0x80000, 0x0, 0x0, 0x0, 0x0⟩ /- COMP_CTRL -/,
  ⟨0x3C03, 1, 1, 0x0, 0x0, 0x0, 0x0, 0x0⟩ /- PROBE_CLEAN -/,
  ⟨0x3C04, 1, 1, 0x0, 0x0, 0x0, 0x0, 0x0⟩ /- PROBE_FAILS -/,
  ⟨0x3C05, 1, 1, 0x0, 0x0, 0x0, 0x0, 0x0⟩ /- PROBE_LAST -/,
  ⟨0x3C06, 1, 1, 0x0, 0x0, 0x0, 0x0, 0x0⟩ /- MEM_ERRS -/,
  ⟨0x3C08, 1, 8, 0x0, 0x0, 0x0, 0x0, 0x0⟩ /- CASE_STATE0-CASE_STATE7 -/,
  ⟨0x3C10, 4, 6, 0x0, 0x0, 0x0, 0x0, 0x0⟩ /- CRC_CNTd -/,
  ⟨0x3C11, 4, 6, 0x0, 0x0, 0x0, 0x0, 0x0⟩ /- XC_CNTd -/,
  ⟨0x3C12, 4, 6, 0x0, 0x0, 0x0, 0x0, 0x0⟩ /- ABSENT_CNTd -/,
  ⟨0x3C13, 4, 6, 0x0, 0x0, 0x0, 0x0, 0x0⟩ /- ARRIVALd -/,
  ⟨0x3D00, 1, 128, 0x0, 0x1C000, 0x0, 0x0, 0x0⟩ /- COMP_STATE0-COMP_STATE127 -/,
  ⟨0x3E00, 1, 128, 0x0, 0x0, 0x0, 0x0, 0x0⟩ /- PROBE_ROM -/,
  ⟨0x3E80, 1, 16, 0x0, 0x0, 0x0, 0x0, 0x0⟩ /- PROBE_TABLE -/,
  ⟨0x4000, 1, 1, 0x80000, 0x0, 0x0, 0x0, 0x0⟩ /- FORME_CTRL -/,
  ⟨0x4001, 1, 1, 0x0, 0x4000, 0x0, 0x0, 0x0⟩ /- FORME_STATUS -/,
  ⟨0x4002, 1, 1, 0x0, 0x0, 0x0, 0x0, 0x0⟩ /- LOAD_NEXT -/,
  ⟨0x4003, 1, 1, 0xFFFFF, 0x0, 0x0, 0x0, 0x0⟩ /- LOAD_DATA -/,
  ⟨0x4004, 1, 2, 0x0, 0x0, 0x0, 0x0, 0x0⟩ /- CRC_CALC -/,
  ⟨0x4006, 1, 13, 0x0, 0x0, 0x0, 0x0, 0x0⟩ /- SEAL_CALC -/,
  ⟨0x4020, 1, 32, 0x0, 0x0, 0x0, 0x0, 0x0⟩ /- STAGED_HDR -/]

/-- Parameter words of the BN die, part 11. -/
def bnRows11 : List PRow := [
  ⟨0x4040, 1, 32, 0x0, 0x0, 0x0, 0x0, 0x0⟩ /- LIVE_HDR -/]

/-- The parameter map of the BN die. -/
def bnMap : List PRow := bnRows0 ++ bnRows1 ++ bnRows2 ++ bnRows3 ++ bnRows4 ++ bnRows5 ++ bnRows6 ++ bnRows7 ++ bnRows8 ++ bnRows9 ++ bnRows10 ++ bnRows11

end Sys2Proof.Machine
end

