-- ==== Sys2Proof/Machine/State.lean ====
section
/-! DEFINITION. The state of the package as plain data: the FV dies, the two BN dies, the balls, the queue of waiting
commands; the reasons to stop; the state after reset. Every parameter word lives in one sparse map of its die, where an
unlisted offset reads as its reset value (Machine/Map.lean). -/

namespace Sys2Proof.Machine

/-- The variants of the part (R6). -/
inductive Variant where
  | sln2
  | sln4
  | sln8
deriving DecidableEq, Repr

/-- Why the machine stops with a fault. No command of the table stops it: the type has one constructor, raised by nothing;
safe. -/
inductive Fault where
  /-- Raised by nothing: kept so that the type has a name for a stop. Safe. -/
  | none
deriving DecidableEq, Repr

/-- Why a command has no meaning. -/
inductive Refusal where
  /-- Raised by an arm of `exec` whose command has no meaning yet; safe. -/
  | notModelled (mnemonic : String)
deriving DecidableEq, Repr

/-- The status codes of replies (R446). -/
inductive Status where
  | ok | busy | asleep | denied | lockedOut | badOpcode | badLength | badAddress | range | readOnly | notActive | epoch
  | timeout | proofFail | nothingStaged | stepUsed | failedDomain | check | queueFull | okRetained
deriving DecidableEq, Repr

/-- The state of a switched power domain (R472). -/
inductive DomPower where
  | off | on | retained | failed
deriving DecidableEq, Repr

/-- A switched power domain (R472, R475). `waking` counts the attempt that waits for power-good, `att` the attempt that
brought it up and can still be found to have failed. -/
structure Dom where
  power : DomPower
  woken : Bool
  isolated : Bool
  cause : Nat
  waking : Nat
  att : Nat
deriving DecidableEq, Repr

/-- A domain that is off and clamped. -/
def Dom.offDom : Dom := ⟨.off, false, true, 0, 0, 0⟩

/-- The phase of a channel's ring (R83, R87, R90-R92); edges are counted from the die's own crossing 0, eight a crossing. -/
inductive ChPhase where
  /-- armed from this edge on -/
  | idle (since : Nat)
  /-- the ring runs -/
  | running
  /-- the ring has stopped; the captures wait from this edge on -/
  | stopped (ready : Nat)
  /-- the tray has taken the captures; the channel re-arms at this edge -/
  | taken (rearm : Nat)
  /-- unarmed until the discriminator falls (R92 ORDER) -/
  | blocked
deriving DecidableEq, Repr

/-- One ring activation: the discriminator that started it, the edges, the captures (R85), the flags. -/
structure Ring where
  disc : Disc
  start : Nat
  e1 : Nat
  v1 : Nat
  v2 : Nat
  v3 : Nat
  vT : Option Nat
  hiFired : Bool
  high : Bool
  sat : Bool
  ovf : Bool
deriving DecidableEq, Repr

/-- A channel: its ring, its discriminator outputs. -/
structure ChanSt where
  phase : ChPhase
  hiUp : Bool
  loUp : Bool
  ring : Option Ring
deriving DecidableEq, Repr

/-- A channel that is armed and quiet. -/
def ChanSt.quiet : ChanSt := ⟨.idle 0, false, false, none⟩

/-- A hit in a derandomizer: its band (high or not), its crossing on the die's own count, the boundary from which it is
eligible (R112). -/
structure Hit where
  ch : Nat
  toa : Nat
  tot : Nat
  high : Bool
  xc : Nat
  elig : Nat
deriving DecidableEq, Repr

/-- A pending tap pair (R107). -/
structure TapPair where
  ch : Nat
  v1 : Nat
  vT : Nat
  v2 : Nat
  v3 : Nat
  k : Nat
  ovf : Bool
  sat : Bool
  xc : Nat
deriving DecidableEq, Repr

/-- Captures taken by a tray, whose arithmetic is under way (R90). -/
structure Taken where
  ch : Nat
  due : Nat
  ring : Ring
  tap : Bool
deriving DecidableEq, Repr

/-- A tray: its derandomizer in entry order, its tap buffer, the arithmetic under way, the loss report (oldest and newest
crossing), whether low-band hits were dropped, the pending phase measurement. -/
structure TraySt where
  hits : List Hit
  taps : List TapPair
  pipe : List Taken
  loss : Option (Nat × Nat)
  occ : Nat
  peak : Nat
  phasePend : Option (Nat × Word)
deriving DecidableEq, Repr

/-- A tray with nothing in it. -/
def TraySt.empty : TraySt := ⟨[], [], [], none, 0, 0, none⟩

/-- A saturation notice (R121): bonbon 0-63 of the die, channel in it, TOA, crossing on the die's own count. -/
structure Notice where
  bonbon : Nat
  chan : Nat
  toa : Nat
  xc : Nat
deriving DecidableEq, Repr

/-- A request that waits in the FV die (R136): its port, its crossing on the die's own count, and whether it came under the
terms of R132. -/
structure FvReq where
  port : BnId
  op : Nat
  tag : Nat
  epoch : Nat
  off : Nat
  data : Word
  xc : Nat
  auth : Bool
deriving DecidableEq, Repr

/-- A reply that waits in the FV die, not before a crossing of the die's own count (R136). -/
structure FvReply where
  port : BnId
  tag : Nat
  status : Status
  data : Word
  after : Nat
deriving DecidableEq, Repr

/-- The frame on the wires: beats 0-30, the status byte, its crossing on the die's own count, the notices it carries. -/
structure FvFrame where
  beats : List Dbl
  status : Nat
  xc : Nat
  notices : List Notice
deriving DecidableEq, Repr

/-- A ligature port of an FV die: reference, training, the last LH, the clock-loss line, what arrived in this crossing and
in the previous one (none: no valid frame; else its LH). -/
structure FvPort where
  refOn : Bool
  trained : Bool
  wasTrained : Bool
  lh : Bool
  clkLoss : Bool
  got : Option Bool
  gotPrev : Option Bool
deriving DecidableEq, Repr

/-- A port with nothing on it. -/
def FvPort.dead : FvPort := ⟨false, false, false, false, false, none, none⟩

/-- A reference switch under way (R144): the first SKIP crossing on the die's own count, the new port, whether the TDC domain
has restarted. -/
structure SwitchSt where
  first : Nat
  port : BnId
  restarted : Bool
deriving DecidableEq, Repr

/-- An injection train (R70, R71): the crossing of the next pulse on the die's own count, the pulses still to come, and the
sampled parameters. -/
structure Train where
  next : Nat
  left : Nat
  period : Nat
  amp : List Word
  time : Word
deriving DecidableEq, Repr

/-- What the self-test of an FV die finds (R549; log entry 7). -/
structure FvHealth where
  ringFails : List Nat
  derandOk : Bool
  loopOk : Bool
deriving DecidableEq, Repr

/-- An FV die. -/
structure Fv where
  powered : Bool
  regs : SMap Word
  oldVals : SMap Word
  staged : List (Nat × Word)
  chans : SMap ChanSt
  orderCnt : SMap Nat
  pileupCnt : SMap Nat
  calfailCnt : SMap Nat
  lastPeriod : SMap Nat
  xc : Nat
  num : Nat
  named : Option Nat
  renumber : Bool
  trays : Vector TraySt 4
  notices : List Notice
  discards : List Notice
  ldrop : Bool
  injPulse : Bool
  frame : Option FvFrame
  prevFrame : Option FvFrame
  reqs : List FvReq
  replies : List FvReply
  served : Option Nat
  portA : FvPort
  portB : FvPort
  safe : Bool
  wasSafe : Bool
  safeCause : Nat
  refPort : BnId
  epoch : Nat
  silent : Nat
  resync : Nat
  reflossAsk : Option BnId
  sw : Option SwitchSt
  armed : Option (Nat × Nat)
  lastTag : Nat
  scalePend : Option Word
  scalePrev : Word
  scaleFrom : Nat
  train : Option Train
  window : Option (Nat × Nat)
  doms : SMap Dom
  testDone : Bool
  test : FvHealth
  health : FvHealth
deriving DecidableEq, Repr

/-- A galley cell: its two doubles, its three valid-bit copies, the error pattern over its 104 stored bits (R277, R285). -/
structure Cell where
  d0 : Dbl
  d1 : Dbl
  valid : Nat
  flips : Nat
deriving DecidableEq, Repr

/-- A cell that holds nothing. -/
def Cell.blank : Cell := ⟨0, 0, 0, 0⟩

/-- A cell as a queue links it: its address, its END bits (R286), the cycles from which its doubles are visible (R290). -/
structure QCell where
  addr : Nat
  end0 : Bool
  end1 : Bool
  full : Bool
  vis0 : Nat
  vis1 : Nat
deriving DecidableEq, Repr

/-- The item state of a queue (R288, R289, R293). -/
inductive ItemMode where
  | normal
  | refusing
  | over
  | cut
deriving DecidableEq, Repr

/-- A queue: its cells from head to tail, whether the first double of the head is consumed, the tail register, the item
state (doubles of the open item, cells drawn from its reservation), and whether the reader discards up to the END. -/
structure Queue where
  cells : List QCell
  headHalf : Bool
  tailReg : Dbl
  openLen : Nat
  drawn : Nat
  mode : ItemMode
  skip : Bool
  flushed : Bool
  above : Bool
deriving DecidableEq, Repr

/-- An empty queue. -/
def Queue.empty : Queue := ⟨[], false, 0, 0, 0, .normal, false, false, false⟩

/-- A scrub under way (R302): cells left, rate, and the position of the background scrub is the galley's. -/
structure ScrubCmd where
  next : Nat
  last : Nat
  rate : Nat
deriving DecidableEq, Repr

/-- The galley: cells, link error patterns by link codeword, free list, BUMP, leaked cells, queues, background scrub
position, commanded scrub, pending flushes (queue, crossing), refusals for lack of cells in this crossing and the one
before (queues 0-7, RDSYS STORE). -/
structure Galley where
  cells : SMap Cell
  linkFlips : SMap Nat
  free : List Nat
  bump : Nat
  leaked : Nat
  queues : SMap Queue
  scrubPos : Nat
  scrub : Option ScrubCmd
  flushes : List (Nat × Nat)
  storeNow : List Nat
  storePrev : List Nat
deriving DecidableEq, Repr

/-- A galley after a flash clear (R285, R287). -/
def Galley.empty : Galley := ⟨[], [], [], 0, 0, [], 0, none, [], [], []⟩

/-- The device states (R348, R477). -/
inductive DevState where
  | off | boot | minimal | ready | run | doze | sleep | shutdown
deriving DecidableEq, Repr

/-- The roles (R46, R348); a die in BOOT, SLEEP, SHUTDOWN or OFF has none. -/
inductive Role where
  | active | shadow | cold | quiet | minimal | failed | none
deriving DecidableEq, Repr

/-- A command packet under way in the framing layer (R376, R377): its words so far, header first, and the crossing of the
header on the die's own count. -/
structure OpenPkt where
  words : List Word
  since : Nat
deriving DecidableEq, Repr

/-- A packet whose check word has arrived (R428): header, parameters, check word. -/
structure Pkt where
  header : Word
  params : List Word
  check : Word
deriving DecidableEq, Repr

/-- Who waits for a request toward an FV die: the packet in execution, the background sweep (R489), the restore of an FV die
(R490), the clear of SAFE after a takeover (R413: read, then write), the keeping of BIAS at DOZE (R480), or nobody. -/
inductive ReqOwner where
  | job
  | sweep
  | restore
  | safeRead
  | dozeRead
  | none
deriving DecidableEq, Repr

/-- A request toward an FV die on the BN side (R129, R136). Times are on the BN die's own crossing count. -/
structure BnReq where
  die : Die
  op : Nat
  off : Nat
  data : Word
  owner : ReqOwner
  made : Nat
  sent : Option Nat
  tag : Nat
  epoch : Nat
deriving DecidableEq, Repr

/-- The packet in execution that waits on FV dies (R430, R432, R433): READ; WRITE or STAGE, die by die for a broadcast;
TAP_SET; on a domain's power-good (R474): WAKE; on the probe rounds up to an own crossing (R444): SELFTEST PROBE. -/
inductive Job where
  | read (tag : Nat) (d : Die) (off left : Nat) (acc : List Word) (kept : Bool)
  | write (tag : Nat) (stage : Bool) (dies : List Die) (rest : List Die) (off : Nat) (vals : List Word) (done : Nat)
      (bad : Option Status) (kept : Bool)
  | tapSet (tag : Nat)
  | wake (tag dom : Nat)
  | probe (tag fails until_ : Nat)
deriving DecidableEq, Repr

/-- The levels of a session (R437). -/
inductive Level where
  | open
  | operate
  | service
deriving DecidableEq, Repr

/-- An OTP key slot (R438, R459). -/
structure Slot where
  programmed : Bool
  revoked : Bool
  digest : List Word
deriving DecidableEq, Repr

/-- The session and its keys (R437-R440): the lockouts run in the always-on logic; FAIL_A, FAIL_B and the lockout seconds
stand in the pantry. -/
structure Session where
  level : Level
  slot : Nat
  lockA : Bool
  lockB : Bool
  slotsA : Vector Slot 8
  slotsB : Vector Slot 8
deriving DecidableEq, Repr

/-- The states of the staged bank (R454). -/
inductive StageState where
  | empty | staging | proved | armed
deriving DecidableEq, Repr

/-- The staged bank (R447-R455): staged words; entries held for sleeping blocks are among them; the FV dies with staged
content and the epoch at the first STAGE, and the words staged there; the armed impress. -/
structure Stage where
  st : StageState
  words : List (Nat × Word)
  tables : SMap Nat
  fvDies : List (Die × Nat)
  fvWords : List (Die × Nat × Word)
  twinSkipped : Bool
  restoreArmed : Bool
  goTag : Nat
  lastRule : Nat
  armedN : Nat
  armedTag : Nat
  formeIn : Bool
  missFrom : Option Nat
deriving DecidableEq, Repr

/-- The empty bank. -/
def Stage.init : Stage := ⟨.empty, [], [], [], [], false, false, 0, 0, 0, 0, false, none⟩

/-- An accepted entry that has not begun (R442, R478): DOZE or SLEEP; whether the reply has left; the entry crossing. -/
structure Entry where
  doze : Bool
  d : Option Nat
deriving DecidableEq, Repr

/-- What waits for its reply to leave UP0 (R442, R444): a reset of the die, a restart of a lane, an accepted entry. -/
inductive AfterReply where
  | resetDie
  | lane (l : Lane)
  | entry
deriving DecidableEq, Repr

/-- Power and clocks of a BN die (R462-R494): the state, that a DOZE was entered from RUN, an accepted entry, the end of the
WAKE_HOLD window, a latched wake event, D and X of a DOZE on the own count, the domains, the sources, the wait after a
clock-source failure, CTRL_IN, the clock-loss lines, the valid runs that the wake detector has seen (R382), what waits for replies. -/
structure Power where
  dev : DevState
  runBefore : Bool
  entry : Option Entry
  holdEnd : Option Nat
  wakeLatched : Bool
  dozeD : Nat
  dozeX : Option Nat
  doms : SMap Dom
  xoOk : Bool
  pllLock : Bool
  pllRef : Nat
  clkWait : Bool
  ctrlIn : Nat
  clkLossOut : Bool
  bursts : Nat
  after : List (AfterReply × Option Nat)
deriving DecidableEq, Repr

/-- What the physical die is like where a self-test looks (log entry 7). -/
structure BnHealth where
  checkerFails : Nat
  memOk : Bool
  memCorr : Nat
deriving DecidableEq, Repr

/-- The boot of a BN die (R543-R559); the boot records stand in the pantry. -/
structure Boot where
  step : Nat
  cause : Nat
  outcome : Nat
  minimal : Bool
  deadlineRun : Bool
  straps : Straps
  wakeSeq : Bool
  trainTries : SMap Nat
  thermOtp : Nat
  health : BnHealth
deriving DecidableEq, Repr

/-- The pantry (R488-R491): its words where they differ from the retained defaults, the error patterns of its codewords, the
scrub and the sweep positions, the restores under way (die, words left), and whether it was empty at the last power-up. -/
structure Pantry where
  words : SMap Word
  flips : SMap Nat
  scrubNext : Nat
  sweepPos : Nat
  restore : List (Die × Nat)
  wasEmpty : Bool
deriving DecidableEq, Repr

/-- The states of a lane (R392). -/
inductive LaneState where
  | idle | training | active | prbs
deriving DecidableEq, Repr

/-- A serial lane (R366-R374, R388-R391). -/
structure LaneSt where
  st : LaneState
  trainEnd : Nat
  los : Bool
  lol : Bool
  blockLock : Bool
  cdrLock : Bool
  goodRun : Nat
  recent : List Bool
  prbsEnd : Option Nat
  chkLock : Bool
  inject : Nat
  fault : Bool
deriving DecidableEq, Repr

/-- A lane at rest. -/
def LaneSt.rest : LaneSt := ⟨.idle, 0, false, true, false, false, 0, [], none, false, 0, false⟩

/-- The time service (R149-R179): device time T in 2^-20 tk, the crossing counter, the die's own count of crossings, the
step and rate requests, the sync exchange, the trigger and the CALPULSE of this crossing and the one before, the counter of the crossing before,
whether a step took effect since t2 of the exchange (R168). -/
structure Time where
  t : Nat
  counter : Nat
  xc : Nat
  step : Nat
  unsetCause : Nat
  stepPend : Option (Nat × Nat)
  rate : Int
  ratePend : Option (Nat × Int)
  holdover : Bool
  xcSync : Bool
  xreset : Bool
  delayReq : Option Nat
  echo : Option (Nat × Nat)
  t1Mask : Nat
  trigNow : Option Nat
  trigShown : Option Nat
  calpNext : Bool
  calpNow : Bool
  prev : Nat
  stepIn : Bool
deriving DecidableEq, Repr

/-- Where a result in flight lands in a compositor (R217-R219, R228, R235, R236). -/
inductive Dest where
  | reg (r : Nat) (v : Word)
  | pair (r : Nat) (v : Dbl)
  | pairValid (r : Nat) (v : Dbl) (j : Nat) (ok : Bool)
  | pred (j : Nat) (v : Bool)
  | preds (mask vals : Nat)
  | accSet (k : Bool) (v : BitVec 48)
  | accAdd (k : Bool) (v : Int) (sat : Bool)
  | xin (src : Nat) (v : Dbl)
  | rin (up : Bool) (hops src : Nat) (v : Dbl)
deriving DecidableEq, Repr

/-- A result in flight: the global cycle at whose end it lands, its rank among those of one cycle (the last stands). -/
structure Flight where
  due : Nat
  rank : Nat
  dst : Dest
deriving DecidableEq, Repr

/-- A compositor (R180): registers, accumulators, predicates, input registers, results in flight, the live and the staged
table and instruction banks with the physical bank that is live, the error patterns of its codewords, whether the staged
table bank holds changes (R580), the crossings in which bank copies end (R204). -/
structure Comp where
  g : SMap Word
  a0 : BitVec 48
  a1 : BitVec 48
  p : BitVec 4
  xin : Dbl
  rinUp : Dbl
  rinDn : Dbl
  flight : List Flight
  tblLive : SMap Word
  tblStaged : SMap Word
  insLive : SMap Dbl
  insStaged : SMap Dbl
  tblBank : Bool
  insBank : Bool
  flips : SMap Nat
  tblDirty : Bool
  copyTbl : Option Nat
  copyIns : Option Nat
deriving DecidableEq, Repr

/-- A compositor that holds nothing. -/
def Comp.zero : Comp := ⟨[], 0, 0, 0, 0, 0, 0, [], [], [], [], [], false, false, [], false, none, none⟩

/-- The array around the compositors: the position of the last issue in its crossing (128 times the cycle plus the
compositor, plus 1), the cycle of the last access at each case's galley port and justifier port (plus 1), the ring links
taken (link, cycle, sender, whether by injection), the code words of this crossing (length, bits), the probe mismatches
(crossing, compositor), the crossing of the last recorded probe round, whether it was clean, the scrub position. -/
structure Arr where
  comps : SMap Comp
  cursor : Nat
  gport : SMap Nat
  jport : SMap Nat
  links : List (Nat × Nat × Nat × Bool)
  jwords : List (Nat × Nat)
  probeBad : List (Nat × Nat)
  probeRec : Option Nat
  probeOk : Bool
  scrubPos : Nat
deriving DecidableEq, Repr

/-- An array with nothing in it. -/
def Arr.empty : Arr := ⟨[], 0, [], [], [], [], [], none, false, 0⟩

/-- The staged forme states (R276). -/
inductive FormeStage where
  | empty | loading | loaded | proved | armed
deriving DecidableEq, Repr

/-- The forme loader (R247-R256): the image words so far, the section under way (compositor, whether it is stored, words of
content taken, TBL_LEN), the sections' numbers so far, the flags, the domains that the load and PROOF switched on, whether a
forme is live. -/
structure Loader where
  st : FormeStage
  img : List Word
  sect : Option (Nat × Bool × Nat × Nat)
  sects : List Nat
  sectErr : Bool
  crcOk : Bool
  sealOk : Bool
  goRefused : Bool
  lastRule : Nat
  live : Bool
  loadDoms : List Nat
  proofDoms : List Nat
deriving DecidableEq, Repr

/-- A loader with nothing loaded. -/
def Loader.empty : Loader := ⟨.empty, [], none, [], false, false, false, false, 0, false, [], []⟩

/-- The phases of acquisition (R332). -/
inductive AcqPhase where
  | idle | startPend | run | stopPend | drain
deriving DecidableEq, Repr

/-- Acquisition (R308-R326): the phase, S and E, the crossing (own count) of S, the cut step and the own crossing of its last
change, level and cut of this crossing and of the one before, the throttle word of this crossing and the one before, the own crossing in which the level was last taken. -/
structure Acq where
  phase : AcqPhase
  s : Nat
  e : Nat
  sXc : Nat
  cutN : Nat
  cutAt : Option Nat
  level : Nat
  prevLevel : Nat
  totcut : Nat
  prevTotcut : Nat
  thermNow : Word
  thermPrev : Word
  lvlAt : Option Nat
deriving DecidableEq, Repr

/-- Acquisition at rest. -/
def Acq.idle : Acq := ⟨.idle, 0, 0, 0, 0, none, 0, 0, 0, 0, 0, 0, none⟩

/-- A data sheet as assembled: the own crossing of assembly, its sequence, its CHECK (R401), whether the unit was ACTIVE. -/
structure Asm where
  xc : Nat
  seq : Word
  check : Nat
  active : Bool
  shadow : Bool
deriving DecidableEq, Repr

/-- An anchor (R173, R385): cause, flags, source, counter, rate, time in 2^-20 tk, the sheet sequence it is for. -/
structure Anc where
  cause : Nat
  unset : Bool
  sync : Bool
  src : Bool
  counter : Nat
  rate : Int
  t : Nat
deriving DecidableEq, Repr

/-- The anchor service of a unit (R171, R172): anchors decided or received and not yet placed, those that a unit without the
lease would take from its own time service, the source of the last anchor, and the crossing from which a time event or a role
change asks for one. -/
structure Anchors where
  due : List Anc
  cand : List Anc
  lastSrc : Option Bool
  timeEvent : Option Nat
  roleEvent : Option Nat
deriving DecidableEq, Repr

/-- The sheet path (R334-R348, R407-R411): the last sheets assembled; the own crossing and the words of the last sheet sent on the
uplink; the first sequence stored in the run, whether HOLD_LAST is still to be set, whether the HOLD range is not
empty; the sheets assembled with control words and not yet sent, with the count of marks that were complete before them; the
sheet flagged DELAY_REQ. -/
structure Sheets where
  asms : List Asm
  sentAt : Option Nat
  sent : List Word
  firstSeq : Option Word
  tkR : Bool
  hold : Bool
  ctlIn : List (Word × Nat)
  dreq : Option Word
deriving DecidableEq, Repr

/-- A handover under way (R414): for the holder the own crossing of the RELEASE_ASK, for the claimant that in which HANDOVER
came into force; H; whether HANDOVER was sent, or named this TX_NEXT; whether ACCEPT is in force, or was sent; COMMIT's EXP,
TX_NEXT and ACK_SEQ, sent or in force. -/
structure Handover where
  k : Nat
  h : Nat
  asked : Bool
  tx : Word
  accepted : Bool
  committed : Option (Nat × Word × Word)
deriving DecidableEq, Repr

/-- Shadow entry on one unit (R416-R418): whether ROLE_REQUEST asked for it, the own crossing of the last ask, ENTRY of
LEASE_STATUS; Y and the count named; for the ACTIVE unit the index of the next double to send; for the joining unit the
doubles received; and L once named. -/
structure Joining where
  wanted : Bool
  askAt : Option Nat
  code : Nat
  y : Option Nat
  outIdx : Nat
  count : Nat
  got : SMap Dbl
  l : Option Nat
deriving DecidableEq, Repr

/-- No entry. -/
def Joining.none : Joining := ⟨false, Option.none, 0, Option.none, 0, 0, [], Option.none⟩

/-- The role and the lease of a unit (R393-R418). Crossings are values of the crossing counter, but for `shadowSince`,
`evalAt` and `a1`, which are on the own count. `released`: LEAVE has ended the lease before the boundary (R394). -/
structure LeaseSt where
  role : Role
  next : Option (Role × Nat)
  exp : Nat
  released : Bool
  gaveUp : Bool
  diverge : Bool
  claim : Bool
  jvalid : Bool
  tailDrop : Bool
  shadowSince : Nat
  evalAt : Option Nat
  a1 : Nat
  lhSeen : Option Nat
  xOld : Option Nat
  ho : Option Handover
  join : Joining
deriving DecidableEq, Repr

/-- No lease. -/
def LeaseSt.none : LeaseSt :=
  ⟨.none, Option.none, 0, false, false, false, false, false, false, 0, Option.none, 0, Option.none, Option.none,
    Option.none, Joining.none⟩

/-- The cross-link of a unit (R383-R387): the frames sent in this crossing and the one before (256 bits), the frame used in
this crossing, the last frame in force and the own crossing from which it is, whether the frame of this crossing was taken,
XLINK_DOWN, the run of used frames; pending CONTROL, ANCHOR, TWIN and STATE messages as MTYPE and MDATA; the last TWIN sent
(CRC and STAGED) with its own crossing, and the last one in force. -/
structure XLink where
  out : Option Nat
  outPrev : Option Nat
  usedNow : Option Nat
  force : Option Nat
  forceAt : Nat
  took : Bool
  down : Bool
  run : Nat
  ctl : List Nat
  anc : List Nat
  twin : List Nat
  st : List Nat
  twinLast : Option (Nat × Nat)
  partnerTwin : Option Nat
deriving DecidableEq, Repr

/-- A cross-link that is down. -/
def XLink.dead : XLink := ⟨none, none, none, none, 0, false, true, 0, [], [], [], [], none, none⟩

/-- What a ligature port set holds (R192, R193): the verdict of the frame presented in this crossing and its beats, the own
crossing of the judgement, the count of the last frame judged on the FV die, the last valid phase word of each tray, the own crossing of the
last frame sent. -/
structure LigIn where
  verdict : Nat
  beats : List Dbl
  judged : Option Nat
  lastIdx : Option Nat
  phase : SMap Word
  sentAt : Option Nat
deriving DecidableEq, Repr

/-- A port set with nothing on it. -/
def LigIn.dead : LigIn := ⟨3, [], none, none, [], none⟩

/-- The collection of a STATS forme (R102, R461): accepted and not begun, running, done; by package channel the stamps (TOA, TOT) and
the crossing of the last one; the pulses seen (die, crossing) and the last of them. -/
structure Stats where
  armed : Bool
  collecting : Bool
  done : Bool
  stamps : SMap (List (Nat × Nat))
  seen : SMap Nat
  pulses : List (Nat × Nat)
  lastPulse : Option Nat
deriving DecidableEq, Repr

/-- No collection. -/
def Stats.none : Stats := ⟨false, false, false, [], [], [], Option.none⟩

/-- A conversion under way (R495-R518): the entry, whether urgent, whether an urgent request merged, the entry's words and
averaging exponent at its start, the switch and settle instants (tk), the last grid instant seen, whether the dwell has begun,
its outputs, used samples, sum, flags, first and last timestamps, raw sum for the open check, r of CHOP, whether excited. -/
structure Conv where
  entry : Nat
  urgent : Bool
  met : Bool
  sq : List Word
  k : Nat
  tsw : Nat
  settle : Nat
  lastT : Option Nat
  outs : Nat
  m : Nat
  sum : Int
  rawSum : Int
  firstT : Nat
  usedT : Nat
  blanked : Bool
  ovr : Bool
  guardOut : Bool
  chopRot : Nat
  round : Nat
  asked : Bool
deriving DecidableEq, Repr

/-- A result of a round as the twins compare it: the average and whether it may be compared. -/
structure HkRes where
  a : Int
  ok : Bool
deriving DecidableEq, Repr

/-- The housekeeping converter (R495-R524): round state, the conversion under way, the urgent queue (priority, entry), the
abandonments of this round, the excitation of the last conversion, results of this round, twin runs, the counts of samples at
the shut-down level, the interrupted entry, over-range and blank intervals (start, end, sign), the last periodic start, the BLANK ball as the unit sees it. -/
structure Hkc where
  running : Bool
  pendStart : Bool
  stopping : Bool
  pos : Nat
  conv : Option Conv
  urg : List (Nat × Nat)
  abandons : SMap Nat
  roundAt : Nat
  exc : List Word
  results : SMap HkRes
  twinRun : SMap Nat
  dieRun : SMap Nat
  overs : List (Nat × Bool)
  blanks : List (Nat × Option Nat)
  lastPeriodic : Option Nat
  pin : Bool
deriving DecidableEq, Repr

/-- A converter at rest. -/
def Hkc.rest : Hkc := ⟨false, false, false, 0, none, [], [], 0, [], [], [], [], [], [], none, false⟩

/-- The throttle states (R532). -/
inductive Throttle where
  | normal | asked | enforced
deriving DecidableEq, Repr

/-- Temperature limits (R525-R538): the state in force, the changes that wait for their Z (counter value), the state last decided,
the alarm entry, SKIP_K in force, whether adopted; per sensor entry the window of results
(value, timestamp), the rate, the runs above and below, the alarm; the crossing of the last THERM message. -/
structure ThermSt where
  st : Throttle
  pend : List (Nat × Throttle × Nat × Nat)
  decided : Throttle
  entry : Nat
  skipK : Nat
  follower : Bool
  win : SMap (List (Int × Nat))
  rate : SMap Int
  hiRun : SMap Nat
  loRun : SMap Nat
  alarms : List Nat
  sentAt : Nat
  alert : Nat
deriving DecidableEq, Repr

/-- Temperature limits at rest. -/
def ThermSt.rest : ThermSt :=
  ⟨.normal, [], .normal, 0, 0, false, [], [], [], [], [], 0, 0⟩

/-- A hit that a standard forme holds: die, channel, TOA (corrected but in the ring and in DIAG), TOT, SAT, NEIGH and CAL, the
reference port of its frame, whether it yields a record, its crossing, its place in the order of queue writes. -/
structure FHit where
  die : Nat
  ch : Nat
  toa : Int
  tot : Nat
  sat : Bool
  neigh : Bool
  cal : Bool
  ref : Bool
  kept : Bool
  xc : Nat
  seq : Nat
deriving DecidableEq, Repr

/-- Records that wait in queues for a sheet (R354): their crossing, whether a late group, the marks around a dense group, the
hits, the clusters by die, the sheet from which on they may leave, whether their first mark has been read from queue 35. -/
structure FPart where
  xc : Nat
  late : Bool
  dense : Option (List Word × List Word)
  hits : List FHit
  clusters : List (Nat × List (Word × Word))
  ready : Nat
  begun : Bool
deriving DecidableEq, Repr

/-- A dense window (R319, R320): number, first and last crossing, next group, the crossing from which that group may start. -/
structure Window where
  win : Nat
  b : Nat
  l : Nat
  nextC : Nat
  free : Nat
deriving DecidableEq, Repr

/-- A run of LOSS coverage that is still open (R582): cause, die mask, first and last crossing. -/
structure Cover where
  cause : Nat
  mask : Nat
  first : Nat
  last : Nat
deriving DecidableEq, Repr

/-- What a standard forme found in force for a crossing (R327, R535): level, cut, THERM. -/
structure Judge where
  level : Nat
  cut : Nat
  therm : Word
deriving DecidableEq, Repr

/-- The working state of a standard forme (R263-R275, R315-R329, R353-R360, R535): the last crossing it worked in; primitive counts
and hits by crossing; parts and marks that wait (with whether the mark stands in queue 7); anchors by crossing; the ring, what it
lost, frames with LDROP or without VALID; the windows; open cover runs, frames lost whose coverage waits, crossings under SKIP
by die mask, dropped crossings that wait; notices (die, bonbon, crossing, TOA); epochs and last valid frames; judgements; the source
of the last anchor; the next place in the order of writes; whether a start KEY is due; the compression history. -/
structure FormeSt where
  lastX : Option Nat
  prims : SMap (List Nat)
  groups : SMap (List FHit)
  parts : List FPart
  marks : List (List Word × Bool)
  anchors : List (Nat × List (List Word × Bool))
  ring : List FHit
  ringDrop : List Nat
  ldrops : List Nat
  window : Option Window
  lastWin : Option (Nat × Nat)
  covers : List Cover
  lossPend : List (Nat × Nat × Bool)
  skips : List (Nat × Nat)
  rateHold : List Nat
  notices : List (Nat × Nat × Nat × Nat)
  epochs : SMap (Nat × Nat)
  judges : SMap Judge
  lastAnc : Option Bool
  writes : Nat
  startKey : Bool
  med : SMap Int
  mean : SMap Int
  tabs : SMap (List Nat)
  counts : SMap (List Nat)
deriving DecidableEq, Repr

/-- A forme that has not begun. -/
def FormeSt.fresh : FormeSt :=
  ⟨none, [], [], [], [], [], [], [], [], none, none, [], [], [], [], [], [], [], none, 0, true, [], [], [], []⟩

/-- The states of the test access port (R557, the controller of the standard it names). -/
inductive TapState where
  | reset | idle | selDr | capDr | shiftDr | exit1Dr | pauseDr | exit2Dr | updDr
  | selIr | capIr | shiftIr | exit1Ir | pauseIr | exit2Ir | updIr
deriving DecidableEq, Repr

/-- The instructions of the port (R557). -/
inductive TapInstr where
  | bypass | idcode | sample | extest
deriving DecidableEq, Repr

/-- The test access port of a BN die (R557): its controller, the instruction, the shift registers of instruction and data (the bit nearest
TDO first), the update cells of the boundary register, what TDO drives. -/
structure Tap where
  st : TapState
  ir : TapInstr
  irSh : List Bool
  dr : List Bool
  bsr : List Bool
  tdo : Option Bool
deriving DecidableEq, Repr

/-- A port held in reset. -/
def Tap.rest : Tap := ⟨.reset, .idcode, [], [], [], none⟩

/-- A BN die. `replies` are held until queue 34 admits them (R294), each with whether something waits for it to leave; `ctl`
holds the rest of the control mark that the last sheet began (R347); marks are counted into queue 34, out of it, and sent; `saved`
holds the doubles of a STATE_RESTORE so far (R443); `patches` the patch entries (R445). -/
structure Bn where
  unit : BnId
  last : Status
  regs : SMap Word
  openPkt : Option OpenPkt
  arrived : List Pkt
  waiting : List Pkt
  job : Option Job
  replies : List (List Word × Bool)
  ctl : List Word
  marksIn : Nat
  marksOut : Nat
  marksSent : Nat
  reqs : List BnReq
  epochSeen : SMap Nat
  nextTag : Nat
  sess : Session
  patches : SMap (List Word)
  saved : List Dbl
  stage : Stage
  power : Power
  boot : Boot
  pantry : Pantry
  lanes : Vector LaneSt 7
  time : Time
  cyc : Nat
  gal : Galley
  arr : Arr
  loader : Loader
  acq : Acq
  anchors : Anchors
  sheets : Sheets
  lease : LeaseSt
  xl : XLink
  lig : Vector LigIn 6
  stats : Stats
  hkc : Hkc
  therm : ThermSt
  fst : FormeSt
  tap : Tap
deriving DecidableEq, Repr

/-- A BN die before its supplies (R477): every part at rest, the slots of the keys as delivered (R459). -/
def Bn.dark (u : BnId) : Bn :=
  let slot (i : Nat) : Slot := ⟨decide (i = 0), false, []⟩
  { unit := u, last := .ok, regs := [], openPkt := none, arrived := [], waiting := [], job := none, replies := [], ctl := []
    marksIn := 0, marksOut := 0, marksSent := 0, reqs := [], epochSeen := [], nextTag := 0
    sess := ⟨.open, 0, false, false, Vector.ofFn (fun (i : Fin 8) => slot i.val), Vector.ofFn (fun (i : Fin 8) => slot i.val)⟩
    patches := [], saved := [], stage := .init
    power := ⟨.off, false, none, none, false, 0, none, [], false, false, 0, false, 0, false, 0, []⟩
    boot := ⟨0, 0, 0, false, false, ⟨0, 0⟩, false, [], 0, ⟨0, true, 0⟩⟩
    pantry := ⟨[], [], 0, 0, [], true⟩
    lanes := Vector.replicate 7 .rest
    time := ⟨0, 0, 0, 0, 0, none, 0, none, false, false, false, none, none, 0, none, none, false, false, 0, false⟩
    cyc := 0, gal := .empty, arr := .empty, loader := .empty, acq := .idle, anchors := ⟨[], [], none, none, none⟩
    sheets := ⟨[], none, [], none, false, false, [], none⟩, lease := .none, xl := .dead, lig := Vector.replicate 6 .dead
    stats := .none, hkc := .rest, therm := .rest, fst := .fresh, tap := .rest }

/-- An FV die before its supplies. -/
def Fv.dark : Fv :=
  { powered := false, regs := [], oldVals := [], staged := [], chans := [], orderCnt := [], pileupCnt := [], calfailCnt := []
    lastPeriod := [], xc := 0, num := 0, named := none, renumber := true, trays := Vector.replicate 4 .empty, notices := []
    discards := [], ldrop := false, injPulse := false, frame := none, prevFrame := none, reqs := [], replies := []
    served := none, portA := .dead, portB := .dead, safe := true, wasSafe := true, safeCause := 0, refPort := .a, epoch := 0
    silent := 0, resync := 16, reflossAsk := none, sw := none, armed := none, lastTag := 0
    scalePend := none, scalePrev := 0xC8000#20, scaleFrom := 0, train := none, window := none, doms := []
    testDone := false, test := ⟨[], false, false⟩, health := ⟨[], true, true⟩ }

/-- The package: its variant and grade, the BN dies (BN-B is unused in SLN-2), the FV dies, the BLANK ball and TRST_N, the count of free values drawn, the queue of waiting commands. -/
structure State where
  variant : Variant
  gradeH : Bool
  bnA : Bn
  bnB : Bn
  fvs : Vector Fv 6
  blankPin : Bool
  trstPin : Bool
  freeCtr : Nat
  pending : List Instr
deriving DecidableEq, Repr

/-- The package before VAO is applied (R477; log entries 1 and 3): an SLN-8 of grade S, every die without its supplies. -/
def State.reset : State :=
  { variant := .sln8, gradeH := false, bnA := Bn.dark .a, bnB := Bn.dark .b, fvs := Vector.replicate 6 Fv.dark
    blankPin := false, trstPin := false, freeCtr := 0, pending := [] }

end Sys2Proof.Machine
end

