-- ==== Sys2Proof/Machine/FvOps.lean ====
section
/-! DEFINITION. The FV die: reading and writing its parameter words (R78-R81, R109-R111, R146-R148, R494, R558), SAFE, its
domains, its reset. -/

namespace Sys2Proof.Machine

/-- Whether a variant contains an FV die (R6). -/
def Variant.hasFv : Variant → Die → Bool
  | .sln2, d => d.val == 0
  | .sln4, d => d.val < 2
  | .sln8, _ => true

/-- The code of a status (R446). -/
def Status.code : Status → Nat
  | .ok => 0x00 | .busy => 0x01 | .asleep => 0x02 | .denied => 0x03 | .lockedOut => 0x04 | .badOpcode => 0x05
  | .badLength => 0x06 | .badAddress => 0x07 | .range => 0x08 | .readOnly => 0x09 | .notActive => 0x0A | .epoch => 0x0B
  | .timeout => 0x0C | .proofFail => 0x0D | .nothingStaged => 0x0E | .stepUsed => 0x0F | .failedDomain => 0x10
  | .check => 0x11 | .queueFull => 0x12 | .okRetained => 0x13

/-- The status of a code, OK for a code outside R446. -/
def Status.ofCode (n : Nat) : Status :=
  [Status.ok, .busy, .asleep, .denied, .lockedOut, .badOpcode, .badLength, .badAddress, .range, .readOnly, .notActive,
    .epoch, .timeout, .proofFail, .nothingStaged, .stepUsed, .failedDomain, .check, .queueFull, .okRetained].getD n .ok

/-- Whether a status counts as done (R432). -/
def Status.done : Status → Bool
  | .ok | .okRetained => true
  | _ => false

/-- The code of a domain's state (R472). -/
def DomPower.code : DomPower → Nat
  | .off => 0 | .on => 1 | .retained => 2 | .failed => 3

/-- The reset value of an FV word (R20). -/
def fvDef (off : Nat) : Word :=
  match rowOf fvMap off with
  | some r => wof r.reset
  | none => 0

/-- The stored value of an FV word. -/
def Fv.rd (f : Fv) (off : Nat) : Word := mget f.regs off (fvDef off)

/-- Store an FV word. -/
def Fv.wr (f : Fv) (off : Nat) (v : Word) : Fv := { f with regs := mput f.regs off v (fvDef off) }

/-- Store an FV word whose new value takes effect at the next crossing boundary: the value in force stays on record. -/
def Fv.wrNext (f : Fv) (off : Nat) (v : Word) : Fv :=
  let o := if f.oldVals.any (fun p => p.1 == off) then f.oldVals else f.oldVals ++ [(off, f.rd off)]
  { f.wr off v with oldVals := o }

/-- The value of an FV word in force in this crossing (R62, R83, R111). -/
def Fv.inForce (f : Fv) (off : Nat) : Word := mget f.oldVals off (f.rd off)

/-- Add to a saturating 20-bit counter word. -/
def Fv.bump (f : Fv) (off k : Nat) : Fv := f.wr off (satAdd (f.rd off) k 20)

/-- A port of the die. -/
def Fv.port (f : Fv) : BnId → FvPort
  | .a => f.portA
  | .b => f.portB

/-- Replace a port of the die. -/
def Fv.setPort (f : Fv) (u : BnId) (p : FvPort) : Fv :=
  match u with
  | .a => { f with portA := p }
  | .b => { f with portB := p }

/-- A tray of the die. -/
def Fv.tray (f : Fv) (t : Tray) : TraySt := f.trays[t]

/-- Replace a tray of the die. -/
def Fv.setTray (f : Fv) (t : Tray) (x : TraySt) : Fv := { f with trays := f.trays.set t x }

/-- A channel of the die. -/
def Fv.chan (f : Fv) (ch : Nat) : ChanSt := mget f.chans ch .quiet

/-- Replace a channel of the die. -/
def Fv.setChan (f : Fv) (ch : Nat) (c : ChanSt) : Fv := { f with chans := mput f.chans ch c .quiet }

/-- A domain of the die; a die with its supplies has every domain on unless listed (R494), its power-good taken as given
unless DOMAIN_WAKE_FAILURE says otherwise (log entry 9). -/
def Fv.dom (f : Fv) (n : Nat) : Dom := if f.powered then mget f.doms n ⟨.on, false, false, 0, 0, 1⟩ else .offDom

/-- Replace a domain of the die. -/
def Fv.setDom (f : Fv) (n : Nat) (x : Dom) : Fv := { f with doms := mput f.doms n x ⟨.on, false, false, 0, 0, 1⟩ }

/-- The parent of an FV domain (R471). -/
def fvParent (n : Nat) : Option Nat :=
  if n < 64 then some (n + 64)
  else if n < 128 then some (128 + (n - 64) / 16)
  else if n = 132 then none
  else some 132

/-- The domains below an FV domain (R471, R476). -/
def fvBelow (n : Nat) : List Nat :=
  if n < 64 then []
  else if n < 128 then [n - 64]
  else if n < 132 then
    (List.range 16).map (fun i => 64 + 16 * (n - 128) + i) ++ (List.range 16).map (fun i => 16 * (n - 128) + i)
  else []

/-- Whether a channel's bonbon analog domain is on, and with it the digital domain and the tray (R67, R476). -/
def Fv.chanOn (f : Fv) (ch : Nat) : Bool :=
  (f.dom (ch / 16)).power == .on && (f.dom (64 + ch / 16)).power == .on && (f.dom (128 + ch / 256)).power == .on

/-- What an access to an offset meets before it reaches the word: the CHANNEL words lie in the bonbon digital domain, and so
do the counters of the counter window (R67, R92, R456). -/
def Fv.domBlock (f : Fv) (off : Nat) : Option Status :=
  let chk (ch : Nat) : Option Status :=
    match (f.dom (64 + ch / 16)).power with
    | .on => none
    | .failed => some .failedDomain
    | _ => some .asleep
  if 0x1000 ≤ off ∧ off < 0x1800 then chk ((off - 0x1000) / 2)
  else if 0x1C05 ≤ off ∧ off ≤ 0x1C07 then chk (fld (f.rd 0x1C04) 9 0)
  else none

/-- The word that shows a domain. -/
def domWord (x : Dom) (bit17 : Bool) : Word :=
  wof (x.power.code * 2 ^ 18 + b2n bit17 * 2 ^ 17 + b2n x.isolated * 2 ^ 16 + x.cause)

/-- REQ of an FV domain (R494). -/
def Fv.req (f : Fv) (v : Variant) (n : Nat) : Bool :=
  if n < 132 then wbit (f.rd (0x2400 + n)) 17 else if n = 134 then v != .sln2 else true

/-- What a READ of an FV word shows. -/
def Fv.view (f : Fv) (v : Variant) (d : Die) (off : Nat) : Word :=
  if off = 0x0000 then 0x15A41#20
  else if off = 0x0001 then wof (0x2000 + d.val)
  else if off = 0x0002 then Config.fvSerial d 0
  else if off = 0x0003 then Config.fvSerial d 1
  else if off = 0x0004 then
    if f.testDone then
      wof (b2n (f.test.ringFails.isEmpty && f.test.derandOk && f.test.loopOk) * 2 ^ 19 + b2n f.test.derandOk * 2 ^ 18 +
        b2n f.test.loopOk * 2 ^ 17 + 2 ^ 16 + f.test.ringFails.length)
    else 0
  else if off = 0x0005 then
    match f.testDone, f.test.ringFails with
    | true, c :: t => wof (2 ^ 19 + (t.foldl min c) % 1024)
    | _, _ => 0
  else if off = 0x0400 then
    wof (b2n f.safe * 2 ^ 19 + f.safeCause * 2 ^ 16 + f.refPort.bit * 2 ^ 15 + b2n f.portA.lh * 2 ^ 14 +
      b2n f.portB.lh * 2 ^ 13 + f.epoch)
  else if off = 0x0401 then wof f.silent
  else if off = 0x0403 then
    wof (b2n f.armed.isSome * 2 ^ 19 + b2n (!f.staged.isEmpty) * 2 ^ 18 + (f.armed.map (·.1)).getD 0 * 2 ^ 6 + f.lastTag)
  else if off = 0x1808 then
    wof (b2n f.train.isSome * 2 ^ 19 + (f.rd off).toNat + (f.train.map (·.left)).getD 0)
  else if h : 0x1809 ≤ off ∧ off < 0x180D then wof (Config.injGain d ⟨off - 0x1809, by omega⟩).toNat
  else if off = 0x1C05 then wof (mget f.orderCnt (fld (f.rd 0x1C04) 9 0) 0)
  else if off = 0x1C06 then wof (mget f.pileupCnt (fld (f.rd 0x1C04) 9 0) 0)
  else if off = 0x1C07 then wof (mget f.calfailCnt (fld (f.rd 0x1C04) 9 0) 0)
  else if h : 0x2008 ≤ off ∧ off < 0x200C then
    let t := f.tray ⟨off - 0x2008, by omega⟩
    wof (t.occ * 2 ^ 7 + t.peak)
  else if 0x2400 ≤ off ∧ off < 0x2487 then domWord (f.dom (off - 0x2400)) (f.req v (off - 0x2400))
  else if off = 0x2800 then
    wof (b2n f.portA.refOn * 2 ^ 19 + b2n f.portB.refOn * 2 ^ 18 + b2n f.portA.trained * 2 ^ 17 +
      b2n f.portB.trained * 2 ^ 16)
  else f.rd off

/-- A value that a WRITE or STAGE of an FV word refuses, whatever the access (R21, R65, R81, R110). -/
def fvRange (off : Nat) (v : Word) : Bool :=
  (off == 0x0808 && fld v 1 0 ≥ 2) || (off == 0x0809 && fld v 1 0 == 3) || (off == 0x080A && fld v 15 0 == 0) ||
  (off == 0x1805 && fld v 7 0 < 4) || ((off == 0x1806 || off == 0x1807) && fld v 15 0 == 0) ||
  (off == 0x1C00 && fld v 5 0 == 0)

/-- Enter SAFE with a cause (R137, R138): injection stops; a cause met while SAFE already holds is no entry and leaves
SAFE_CAUSE (log 22). -/
def Fv.enterSafe (f : Fv) (cause : Nat) : Fv :=
  { f with safe := true, wasSafe := true, safeCause := if f.safe then f.safeCause else cause, train := none }

/-- The cause of SAFE that persists, the first in code order (R137, R140; log 22). -/
def Fv.safePersists (f : Fv) : Option Nat :=
  if f.silent ≥ 1024 then some 1
  else if (f.port f.refPort).clkLoss then some 2
  else if (f.port f.refPort).refOn then none else some 3

/-- SAFE written 1 (R140): it clears, or sets again at once with the cause that persists. -/
def Fv.clearSafe (f : Fv) : Fv :=
  match f.safe, f.safePersists with
  | true, some c => { f with safeCause := c }
  | true, none => { f with safe := false }
  | false, _ => f

/-- HIT_COUNT of every channel cleared; SAT_SEEN stays (R65). -/
def clearHitCounts (m : SMap Word) : SMap Word :=
  (m.map (fun p => if 0x1000 ≤ p.1 ∧ p.1 < 0x1800 ∧ p.1 % 2 = 1 then (p.1, p.2 &&& 0x80000#20) else p)).filter
    (fun p => !(decide (0x1000 ≤ p.1) && decide (p.1 < 0x1800) && p.1 % 2 == 1 && p.2 == 0#20))

/-- Words set to their reset values. -/
def Fv.clearWords (f : Fv) (offs : List Nat) : Fv := { f with regs := f.regs.filter (fun p => !offs.contains p.1) }

/-- A bonbon loses its digital supply: its channel words, counters and rings go (R472, R490). -/
def Fv.loseBonbon (f : Fv) (b : Nat) : Fv :=
  let keep (ch : Nat) : Bool := ch / 16 != b
  { f with
    regs := f.regs.filter (fun p => !(decide (0x1000 ≤ p.1) && decide (p.1 < 0x1800) && !keep ((p.1 - 0x1000) / 2)))
    chans := f.chans.filter (fun p => keep p.1)
    orderCnt := f.orderCnt.filter (fun p => keep p.1)
    pileupCnt := f.pileupCnt.filter (fun p => keep p.1)
    calfailCnt := f.calfailCnt.filter (fun p => keep p.1) }

/-- One FV domain follows its request bit at the boundary (R476): off at once, on once power-good arrives. -/
def Fv.followReq (v : Variant) (f : Fv) (n : Nat) : Fv :=
  let x := f.dom n
  if f.req v n then
    if x.power = .on then f else f.setDom n { x with waking := if x.power = .failed then 2 else 1, power := .off, isolated := true, att := 0 }
  else
    let g := f.setDom n ⟨.off, false, true, 0, 0, 0⟩
    if 64 ≤ n ∧ n < 128 then g.loseBonbon (n - 64)
    else if 128 ≤ n ∧ n < 132 then ((List.range 16).map (fun i => 16 * (n - 128) + i)).foldl Fv.loseBonbon g
    else g

/-- What a WRITE does to an FV word once it is allowed, with the word's own side effects. -/
def Fv.apply (v : Variant) (f : Fv) (off : Nat) (r : PRow) (val : Word) : Fv × Status :=
  let old := f.rd off
  let new := merge old val (r.rw ||| r.ao) &&& ~~~ (val &&& wof r.w1c)
  if off = 0x0400 then
    (if wbit val 19 then f.clearSafe else f, .ok)
  else if off = 0x0403 then
    if wbit val 17 then ({ f with staged := [], armed := none }, .ok) else (f, .ok)
  else if off = 0x080A then
    if wbit old 19 ∧ wbit val 19 then (f, .ok)
    else if wbit val 19 then
      ({ f with regs := clearHitCounts f.regs, window := some (f.xc + 1, f.xc + 1 + 64 * fld val 15 0) }.wr off new, .ok)
    else ({ f with window := none }.wr off new, .ok)
  else if off = 0x1C00 then
    let g := f.wr off (setFld new 19 19 0)
    if wbit val 19 then
      ({ g with orderCnt := [], pileupCnt := [], calfailCnt := [] }.clearWords [0x1C0C, 0x1C0D, 0x1C0E, 0x1C0F], .ok)
    else (g, .ok)
  else if off = 0x200C then
    let g := f.wr off (setFld new 19 19 0)
    if wbit val 19 then
      ({ g with trays := g.trays.map (fun (t : TraySt) => { t with peak := 0 }) }.clearWords
        ((List.range 8).map (0x2000 + ·) ++ [0x200D, 0x200E, 0x200F]), .ok)
    else (g, .ok)
  else if off = 0x2804 then
    if wbit val 19 then (f.clearWords [0x2801, 0x2802, 0x2803], .ok) else (f, .ok)
  else if 0x2400 ≤ off ∧ off < 0x2484 then
    let n := off - 0x2400
    if wbit val 17 then
      match fvParent n with
      | some p => if f.req v p then (f.wrNext off new, .ok) else (f, .denied)
      | none => (f.wrNext off new, .ok)
    else ((n :: fvBelow n).foldl (fun g m => g.wrNext (0x2400 + m) (setFld (g.rd (0x2400 + m)) 17 17 0)) f, .ok)
  else if (0x1000 ≤ off ∧ off < 0x1800 ∧ off % 2 = 0) ∨ (0x1C10 ≤ off ∧ off < 0x1C20) then (f.wrNext off new, .ok)
  else (f.wr off new, .ok)

/-- A WRITE of one FV word (R18, R19, R21, R67, R146-R148). -/
def Fv.write (v : Variant) (f : Fv) (off : Nat) (val : Word) : Fv × Status :=
  match rowOf fvMap off with
  | none => (f, .badAddress)
  | some r =>
    if r.rw ||| r.w1c ||| r.ao = 0 then (f, .readOnly)
    else
      match f.domBlock off with
      | some st => (f, st)
      | none => if fvRange off val then (f, .range) else f.apply v off r val

/-- A STAGE of one FV word into the die's staged bank (R18, R129, R146). -/
def Fv.stage (f : Fv) (off : Nat) (val : Word) : Fv × Status :=
  match rowOf fvMap off with
  | none => (f, .badAddress)
  | some r =>
    if r.rw ||| r.w1c ||| r.ao ||| r.st = 0 then (f, .readOnly)
    else if f.domBlock off = some .failedDomain then (f, .failedDomain)
    else if fvRange off val then (f, .range)
    else ({ f with staged := f.staged.filter (fun p => p.1 != off) ++ [(off, val)] }, .ok)

/-- A READ of one FV word; a read of CALFAIL_CNT can advance the counter window (R110). -/
def Fv.read (v : Variant) (d : Die) (f : Fv) (off : Nat) : Fv × Status × Word :=
  match rowOf fvMap off with
  | none => (f, .badAddress, 0)
  | some _ =>
    match f.domBlock off with
    | some st => (f, st, 0)
    | none =>
      let w := f.view v d off
      if off = 0x1C07 ∧ wbit (f.rd 0x1C04) 10 then
        (f.wr 0x1C04 (setFld (f.rd 0x1C04) 9 0 (fld (f.rd 0x1C04) 9 0 + 1)), .ok, w)
      else (f, .ok, w)

/-- Apply the staged bank at the boundary (R135): words of a sleeping block stay staged (R67). -/
def Fv.impress (v : Variant) (f : Fv) : Fv :=
  let stay := f.staged.filter (fun p => (f.domBlock p.1).isSome)
  let go := f.staged.filter (fun p => (f.domBlock p.1).isNone)
  let g := go.foldl (fun g p => (g.write v p.1 p.2).1) f
  { g with staged := stay, oldVals := g.oldVals.filter (fun p => 0x2400 ≤ p.1 && p.1 < 0x2487) }

/-- The FV die after a reset (R141, R579): supplies on; epoch 0 at power-up, one more at any other reset. The ligature
references and the clock-loss lines are the ports' own. -/
def Fv.reset (f : Fv) (powerUp : Bool) : Fv :=
  let p (x : FvPort) : FvPort := { x with trained := false, wasTrained := x.trained || x.wasTrained, lh := false, got := none, gotPrev := none }
  { f with
    powered := true, regs := [], oldVals := [], staged := [], chans := [], orderCnt := [], pileupCnt := [],
    calfailCnt := [], lastPeriod := [], named := none, renumber := true, trays := Vector.replicate 4 .empty,
    notices := [], discards := [], ldrop := false, injPulse := false, frame := none, reqs := [], replies := [],
    served := none, portA := p f.portA, portB := p f.portB, safe := true, wasSafe := true, safeCause := 0, refPort := .a,
    epoch := if powerUp then 0 else (f.epoch + 1) % 16, silent := 0, resync := 16, reflossAsk := none, sw := none,
    armed := none, lastTag := 0, scalePend := none, scalePrev := 0xC8000#20, scaleFrom := 0, train := none,
    window := none, doms := [], testDone := false, test := ⟨[], false, false⟩ }

end Sys2Proof.Machine
end

