-- ==== Sys2Proof/Machine/Tdc.lean ====
section
/-! DEFINITION. Channels and trays of an FV die: edges, captures, take, the calibration arithmetic, the derandomizer
(R57, R58, R63-R67, R74, R83-R100, R105-R108, R112-R115, R121, R124). Edges are counted from the die's own crossing 0,
eight a crossing. -/

namespace Sys2Proof.Machine

/-- The three-position majority filter of the thermometer; an end position stands in for its missing neighbour. -/
def majority (b : BitVec 32) (i : Nat) : Bool :=
  let x := b.getLsbD (if i = 0 then 0 else i - 1)
  let y := b.getLsbD i
  let z := b.getLsbD (if i = 31 then 31 else i + 1)
  (x && y) || (y && z) || (x && z)

/-- The phase code: the position of the first transition after the filter, 0 where there is none (R88, R89). -/
def phaseCode (b : BitVec 32) : Nat :=
  ((List.range 32).find? (fun i => i != 0 && majority b i != majority b (i - 1))).getD 0

/-- The value V of a capture: 32·count + phase, the count read from the counter that is far from its increment (R84, R88). -/
def captureV (l : Latch) : Nat :=
  let p := phaseCode l.therm
  let count := if 8 ≤ p ∧ p ≤ 23 then l.p.toNat else if p < 8 then l.q.toNat else (l.q.toNat + 255) % 256
  32 * count + p

/-- What the calibration arithmetic gives (R99): the crossing shift (1: the previous crossing), TOA in tk, TOT in 8 tk,
the period to keep, whether calibration failed. -/
structure Calib where
  back : Bool
  toa : Nat
  tot : Nat
  period : Nat
  fail : Bool
deriving DecidableEq, Repr

/-- The period in bins, the offset, and fine of an activation, before the check of R98 (R99). -/
def calibRaw (v1 v2 v3 : Nat) : Int × Int × Int :=
  let d12 : Int := (v2 : Int) - v1
  let d13 : Int := (v3 : Int) - v1
  (d13 - d12, 2 * d12 - d13, (v1 : Int) + (2 * d12 - d13))

/-- Whether a hit fails calibration (R98). -/
def calibFails (period offset : Int) (linLim : Nat) : Bool :=
  period < 272 || period > 360 || offset.natAbs > linLim

/-- The calibration arithmetic of R99. `k` is the index of E1 in its crossing, `scale back` the scale word in force for the
crossing that holds E1 or, with `back`, the one before it (R94). -/
def calibrate (v1 v2 v3 : Nat) (vT : Option Nat) (k : Nat) (sat ovf : Bool) (linLim lastPeriod : Nat)
    (scale : Bool → Nat) : Calib :=
  let (p0, offset, fine0) := calibRaw v1 v2 v3
  let fail := calibFails p0 offset linLim
  let period : Int := if fail then lastPeriod else p0
  let fine : Int := if fail then v1 else fine0
  let num0 : Int := k * period - fine
  let back := num0 < 0
  let num := if back then num0 + 8 * period else num0
  let s : Int := scale back
  let toa := min ((num * s + 128 * period).tdiv (256 * period)) 25599
  let tot : Nat :=
    if sat ∨ ovf then 0x1FFF
    else
      match vT with
      | none => 0x1FFF
      | some t => if t ≤ 1 then 0 else min (((t : Int) * s + 1024 * period).tdiv (2048 * period)).toNat 0x1FFF
  ⟨back, toa.toNat, tot, period.toNat, fail⟩

/-- CH_CFG of a channel in force in this crossing. -/
def Fv.cfg (f : Fv) (ch : Nat) : Word := f.inForce (0x1000 + 2 * ch)

/-- LO_MASK of a channel. -/
def Fv.loMask (f : Fv) (ch : Nat) : Bool := wbit (f.cfg ch) 6

/-- HI_MASK of a channel. -/
def Fv.hiMask (f : Fv) (ch : Nat) : Bool := wbit (f.cfg ch) 4

/-- The timing discriminator of a channel (R57). -/
def Fv.timing (f : Fv) (ch : Nat) : Disc := if f.loMask ch then .hi else .lo

/-- Whether a discriminator acts as masked: by its mask, or because the die is SAFE (R63, R66, R138, R140). -/
def Fv.masked (f : Fv) (ch : Nat) (d : Disc) : Bool :=
  f.safe || f.wasSafe || (match d with | .hi => f.hiMask ch | .lo => f.loMask ch)

/-- The edge number of edge `e` of the die's current crossing. -/
def Fv.edge (f : Fv) (e : Edge) : Nat := 8 * f.xc + e.val

/-- Whether the TDC domain runs at an edge: a reference switch stops it for eight periods (R144), and no reference stops it
altogether (R138). -/
def Fv.tdcRuns (f : Fv) (a : Nat) : Bool :=
  f.powered && (f.portA.refOn || f.portB.refOn) &&
  (match f.sw with
    | none => true
    | some s => s.restarted || decide (a < 8 * s.first + 4))

/-- Whether arming is open (R144): leading edges in the two SKIP crossings start no ring. -/
def Fv.armingOpen (f : Fv) : Bool :=
  match f.sw with
  | none => true
  | some s => decide (f.xc < s.first)

/-- Count an edge in HIT_COUNT while a window runs (R64, R65). -/
def Fv.countEdge (f : Fv) (ch : Nat) (d : Disc) : Fv :=
  let sel : Disc := if wbit (f.rd 0x080A) 18 then .lo else .hi
  match f.window with
  | none => f
  | some (s, e) =>
    if d = sel ∧ s ≤ f.xc ∧ f.xc < e ∧ f.safe = false ∧ f.wasSafe = false then
      let w := f.rd (0x1001 + 2 * ch)
      f.wr (0x1001 + 2 * ch) (setFld w 15 0 (min (fld w 15 0 + 1) 0xFFFF))
    else f

/-- A discriminator output of a channel set or cleared. -/
def ChanSt.level (c : ChanSt) (d : Disc) (up : Bool) : ChanSt :=
  match d with
  | .hi => { c with hiUp := up }
  | .lo => { c with loUp := up }

/-- A discriminator output of a channel. -/
def ChanSt.up (c : ChanSt) : Disc → Bool
  | .hi => c.hiUp
  | .lo => c.loUp

/-- Add to a per-channel counter, saturating at F_FFFFh (R92). -/
def cntUp (m : SMap Nat) (ch : Nat) : SMap Nat := mput m ch (min (mget m ch 0 + 1) 0xFFFFF) 0

/-- A leading edge after edge `e` (R57, R63-R65, R83, R92): it starts the ring of an armed channel, it is the high
discriminator's firing during a running one, or it counts PILEUP between ring start and re-arm. -/
def Fv.leading (f : Fv) (ch : Nat) (d : Disc) (e : Edge) (e1 : Nat) (l1 l2 l3 : Latch) : Fv :=
  let a := f.edge e
  if f.powered = false ∨ f.chanOn ch = false ∨ (f.portA.refOn = false ∧ f.portB.refOn = false) then f
  else
    let g := f.countEdge ch d
    let c := (g.chan ch).level d true
    let timing := match c.ring with | some r => r.disc | none => g.timing ch
    let pile (g : Fv) : Fv :=
      if d = timing ∧ g.masked ch d = false then { g with pileupCnt := cntUp g.pileupCnt ch } else g
    match c.phase with
    | .idle since =>
      if d = g.timing ch ∧ g.masked ch d = false ∧ g.armingOpen = true ∧ since ≤ a ∧ (e1 = a + 1 ∨ e1 = a + 2) then
        g.setChan ch { c with
          phase := .running
          ring := some ⟨d, a, e1, captureV l1, captureV l2, captureV l3, none, false, d == .hi, false, false⟩ }
      else g.setChan ch c
    | .running =>
      match c.ring with
      | some r =>
        if d = .hi ∧ r.disc = .lo then g.setChan ch { c with ring := some { r with hiFired := true } }
        else (pile g).setChan ch c
      | none => g.setChan ch c
    | .stopped _ => (pile g).setChan ch c
    | .taken _ => (pile g).setChan ch c
    | .blocked => g.setChan ch c

/-- A trailing edge after edge `e` (R58, R87, R92): it captures vT, decides the band, and stops the ring at the later of
itself and E3; a blocked channel arms at the next edge. -/
def Fv.trailing (f : Fv) (ch : Nat) (d : Disc) (e : Edge) (l : Latch) : Fv :=
  let a := f.edge e
  let c := (f.chan ch).level d false
  match c.phase, c.ring with
  | .running, some r =>
    if d = r.disc ∧ f.tdcRuns a = true then
      let high := r.disc == .hi || (r.hiFired && !f.hiMask ch)
      f.setChan ch { c with
        phase := .stopped (if a < r.e1 + 2 then r.e1 + 2 else a + 1)
        ring := some { r with vT := some (captureV l), high := high } }
    else f.setChan ch c
  | .blocked, _ => if d = f.timing ch then f.setChan ch { c with phase := .idle (a + 1) } else f.setChan ch c
  | _, _ => f.setChan ch c

/-- A running ring stops without its trailing edge (R87, R144): the hit carries a ring overflow. -/
def Fv.overflowAt (f : Fv) (ch : Nat) (ready : Nat) : Fv :=
  let c := f.chan ch
  match c.phase, c.ring with
  | .running, some r =>
    f.setChan ch { c with
      phase := .stopped (max (r.e1 + 2) ready)
      ring := some { r with ovf := true, high := r.disc == .hi || (r.hiFired && !f.hiMask ch) } }
  | _, _ => f

/-- The channels of a tray whose captures wait at an edge, in order of readiness, lowest channel first (R90). -/
def Fv.ready (f : Fv) (t : Tray) (a : Nat) : List (Nat × Nat × Ring) :=
  (f.chans.filterMap (fun (ch, c) =>
    match c.phase, c.ring with
    | .stopped r, some ring => if ch / 256 = t.val ∧ r ≤ a then some (r, ch, ring) else none
    | _, _ => none)).foldl
    (fun l x => insertBy (fun p q => p.1 < q.1 || (p.1 == q.1 && p.2.1 < q.2.1)) x l) []

/-- Whether an enabled selector names a channel (R105), by the setting in force (R111). -/
def Fv.tapped (f : Fv) (ch : Nat) : Bool :=
  (List.range 16).any (fun k =>
    let w := f.inForce (0x1C10 + k)
    wbit w 19 && fld w 9 0 == ch)

/-- The tray takes up to four channels' captures at an edge (R90); the channel re-arms two edges later (R91). -/
def Fv.takeAt (f : Fv) (t : Tray) (e : Edge) : Fv :=
  let a := f.edge e
  if f.tdcRuns a then
    ((f.ready t a).take 4).foldl (fun g (_, ch, ring) =>
      let c := g.chan ch
      let x := g.tray t
      (g.setChan ch { c with phase := .taken (a + 2) }).setTray t
        { x with pipe := x.pipe ++ [⟨ch, a + 8, ring, g.tapped ch⟩] }) f
  else f

/-- The channel re-arms at an edge: ORDER when its timing discriminator is high (R91, R92). -/
def Fv.rearmAt (f : Fv) (ch : Nat) (e : Edge) : Fv :=
  let a := f.edge e
  let c := f.chan ch
  match c.phase with
  | .taken r =>
    if r ≤ a ∧ f.tdcRuns a = true then
      if c.up (f.timing ch) ∧ f.masked ch (f.timing ch) = false then
        { f with orderCnt := cntUp f.orderCnt ch }.setChan ch { c with phase := .blocked, ring := none }
      else f.setChan ch { c with phase := .idle a, ring := none }
    else f
  | _ => f

/-- The scale word in force for a crossing of the die's own count (R94). -/
def Fv.scaleFor (f : Fv) (x : Nat) : Nat := if f.scaleFrom ≤ x then (f.rd 0x1C01).toNat else f.scalePrev.toNat

/-- The arithmetic of R99 on an activation, with its crossing. -/
def Fv.compute (f : Fv) (ch : Nat) (r : Ring) : Calib × Nat :=
  let x := r.e1 / 8
  let c := calibrate r.v1 r.v2 r.v3 r.vT (r.e1 % 8) r.sat r.ovf (fld (f.rd 0x1C00) 5 0) (mget f.lastPeriod ch 312)
    (fun back => f.scaleFor (if back then x - 1 else x))
  (c, if c.back then x - 1 else x)

/-- A lost high-band hit: OVF_CNT and the loss report (R113, R125). -/
def Fv.loseHigh (f : Fv) (t : Tray) (x : Nat) : Fv :=
  let s := f.tray t
  let l := match s.loss with
    | none => (x, x)
    | some (o, n) => (min o x, max n x)
  (f.bump (0x2000 + t.val) 1).setTray t { s with loss := some l }

/-- A dropped low-band hit: LDROP_CNT and the header flag (R113, R115). -/
def Fv.dropLow (f : Fv) (t : Tray) : Fv := { f.bump (0x2004 + t.val) 1 with ldrop := true }

/-- Whether (M, t) lies in the window of R76 of a saturation. -/
def inWindow (n : Notice) (h : Hit) : Bool :=
  h.ch / 16 == n.bonbon && (n.xc < h.xc || (n.xc == h.xc && n.toa < h.toa)) &&
  (h.xc < n.xc + 2 || (h.xc == n.xc + 2 && h.toa ≤ n.toa))

/-- Put a hit at the end of a derandomizer. -/
def Fv.push (f : Fv) (t : Tray) (h : Hit) : Fv :=
  let s := f.tray t
  f.setTray t { s with hits := s.hits ++ [h], peak := max s.peak (s.hits.length + 1) }

/-- Remove the low-band hit that entered last. -/
def evictLow (hs : List Hit) : List Hit := (removeFirst (fun h => !h.high) hs.reverse).reverse

/-- A hit arrives at the derandomizer (R113, R124). -/
def Fv.enter (f : Fv) (t : Tray) (h : Hit) : Fv :=
  let s := f.tray t
  let occ := s.hits.length
  if f.discards.any (fun n => inWindow n h) then
    if h.high then f.loseHigh t h.xc else f.dropLow t
  else if h.high = false then
    if occ ≤ fld (f.rd 0x200C) 5 0 then f.push t h else f.dropLow t
  else if occ < 64 then f.push t h
  else if s.hits.any (fun x => !x.high) then
    (f.setTray t { s with hits := evictLow s.hits }).dropLow t |>.push t h
  else f.loseHigh t h.xc

/-- The tray delivers the next hit due at an edge (R90, R97-R99), with its tap pair (R105, R108). -/
def Fv.deliverAt (f : Fv) (t : Tray) (e : Edge) (free : Nat) : Fv :=
  let a := f.edge e
  let s := f.tray t
  match s.pipe with
  | [] => f
  | x :: rest =>
    if x.due ≤ a ∧ f.tdcRuns a = true then
      let (c, xc) := f.compute x.ch x.ring
      let f1 := f.setTray t { s with pipe := rest }
      let f2 := if c.fail then { f1 with calfailCnt := cntUp f1.calfailCnt x.ch }
        else { f1 with lastPeriod := mput f1.lastPeriod x.ch c.period 312 }
      let f3 := f2.enter t ⟨x.ch, c.toa, c.tot, x.ring.high, xc, a / 8 + 1⟩
      if x.tap then
        let s3 := f3.tray t
        if s3.taps.length < 4 then
          f3.setTray t { s3 with taps := s3.taps ++
            [⟨x.ch, x.ring.v1, x.ring.vT.getD (free % 8192), x.ring.v2, x.ring.v3, x.ring.e1 % 8, x.ring.ovf, x.ring.sat, xc⟩] }
        else f3.bump (0x1C0C + t.val) 1
      else f3
    else f

/-- The order of the notice queue: crossing, then tray and bonbon (R121). -/
def noticeLt (p q : Notice) : Bool := p.xc < q.xc || (p.xc == q.xc && p.bonbon < q.bonbon)

/-- SAT_SEEN of a channel is set (R74). -/
def Fv.satSeen (f : Fv) (ch : Nat) : Fv := f.wr (0x1001 + 2 * ch) (setFld (f.rd (0x1001 + 2 * ch)) 19 19 1)

/-- The activation of a channel carries its saturation: its hit will have TOT 1FFFh (R74, R97). -/
def Fv.satRing (f : Fv) (ch : Nat) (r : Ring) : Fv := f.setChan ch { f.chan ch with ring := some { r with sat := true } }

/-- The notice of a saturation: bonbon, channel, TOA and crossing (R74, R121). -/
def Fv.satNotice (f : Fv) (ch : Nat) (r : Ring) : Notice := ⟨ch / 16, ch % 16, (f.compute ch r).1.toa, (f.compute ch r).2⟩

/-- Of two saturations of one bonbon in one crossing the earlier, at one time the lower channel (R121). -/
def Notice.earlier (n m : Notice) : Notice := if n.toa < m.toa ∨ (n.toa = m.toa ∧ n.chan < m.chan) then n else m

/-- With a full queue the hits in the window of a saturation are discarded (R124). -/
def Fv.discardFor (f : Fv) (n : Notice) : Fv :=
  (idx 4).foldl (fun g t =>
    let s := g.tray t
    let gone := s.hits.filter (fun h => inWindow n h)
    gone.foldl (fun g h => if h.high then g.loseHigh t h.xc else g.dropLow t)
      (g.setTray t { s with hits := s.hits.filter (fun h => !inWindow n h) }))
    { f.bump 0x200F 1 with discards := f.discards ++ [n] }

/-- A notice enters the queue: one a bonbon and crossing (R121, R124). -/
def Fv.addNotice (f : Fv) (n : Notice) : Fv :=
  let same (m : Notice) : Bool := m.bonbon == n.bonbon && m.xc == n.xc
  if f.notices.any same then { f with notices := f.notices.map (fun m => if same m then n.earlier m else m) }
  else if f.notices.length < 16 then { f with notices := insertBy noticeLt n f.notices }
  else f.discardFor n

/-- A saturation after edge `e` (R74, R121, R124): SAT_SEEN, and TOT 1FFFh and a notice for the activation under way. -/
def Fv.saturate (f : Fv) (ch : Nat) : Fv :=
  if f.powered = false ∨ f.chanOn ch = false then f
  else
    let f1 := f.satSeen ch
    match (f1.chan ch).phase, (f1.chan ch).ring with
    | .taken _, _ => f1
    | _, some r => (f1.satRing ch r).addNotice ((f1.satRing ch r).satNotice ch r)
    | _, none => f1

/-- The interval d of the spare TDC in tk, before the route skew (R99, R100). -/
def phaseTk (vT : Nat) (period : Int) (s : Int) : Int := ((vT : Int) * s + 128 * period).tdiv (256 * period)

/-- The word that a phase measurement gives PHASE_MON (R100, R101). -/
def Fv.phaseWord (f : Fv) (v : Variant) (first : BnId) (near : Bool) (skew : Int) (vT e1 e2 e3 : Latch) : Word :=
  let (p, off, _) := calibRaw (captureV e1) (captureV e2) (captureV e3)
  if v = .sln2 ∨ f.portA.refOn = false ∨ f.portB.refOn = false ∨ calibFails p off (fld (f.rd 0x1C00) 5 0) = true then 0
  else
    let s : Int := (f.rd 0x1C01).toNat
    let d0 := phaseTk (captureV vT) p s - skew
    let d := if near then d0 - (s + 128) / 256 else d0
    let ph := if near then d else match first with | .a => d | .b => -d
    if ph.natAbs ≥ 12800 then 0 else wof (2 ^ 19 + ofInt ph 16)

end Sys2Proof.Machine
end

