-- ==== Sys2Proof/Machine/FvFrame.lean ====
section
/-! DEFINITION. The ligature as the FV die sees it: filling and sending frames (R114-R128), taking BN frames (R129-R136),
the reference switch (R143, R144), requests (R136, R142). -/

namespace Sys2Proof.Machine

/-- The slots of a frame under construction: content and age, first slot first. -/
abbrev Slots := List (Dbl × Nat)

/-- The word of a hit slot (R119). -/
def Hit.slot (h : Hit) : Dbl := dof (h.ch * 2 ^ 30 + h.toa * 2 ^ 15 + h.tot * 4 + (if h.high then 1 else 2))

/-- The two words of a tap pair (R107). -/
def TapPair.slots (p : TapPair) : Dbl × Dbl :=
  (dof (p.ch * 2 ^ 30 + p.v1 * 2 ^ 17 + p.vT * 2 ^ 4 + b2n p.ovf * 4 + 3),
   dof (p.k * 2 ^ 37 + b2n p.sat * 2 ^ 30 + p.v2 * 2 ^ 17 + p.v3 * 2 ^ 4 + 8 + 3))

/-- Whether the notice-hold rule keeps a hit back (R123). -/
def Fv.held (f : Fv) (h : Hit) : Bool := f.notices.any (fun n => n.bonbon == h.ch / 16 && n.xc ≤ h.xc)

/-- The trays in the order of a pass of frame M (R116). -/
def passOrder (m : Nat) : List (Fin 4) := (idx 4).map (fun i => ⟨(m + i.val) % 4, Nat.mod_lt _ (by omega)⟩)

/-- One tray's turn in a pass over one band (R116). -/
def fillTurn (high : Bool) (acc : Fv × Slots) (t : Fin 4) : Fv × Slots :=
  let (f, sl) := acc
  let s := f.tray t
  let ok (h : Hit) : Bool := h.high == high && decide (h.elig ≤ f.xc) && !f.held h
  match s.hits.find? ok with
  | some h =>
    if sl.length < 24 then (f.setTray t { s with hits := removeFirst ok s.hits }, sl ++ [(h.slot, f.xc - h.xc)]) else acc
  | none => acc

/-- The passes over one band, at most one hit per tray a pass (R116). -/
def fillBand (high : Bool) (order : List (Fin 4)) : Nat → Fv × Slots → Fv × Slots
  | 0, acc => acc
  | k + 1, acc =>
    let acc' := order.foldl (fillTurn high) acc
    if acc'.2.length = acc.2.length ∨ 24 ≤ acc'.2.length then acc' else fillBand high order k acc'

/-- One tray's turn in a pass over the tap buffers (R116). -/
def tapTurn (acc : Fv × Slots) (t : Fin 4) : Fv × Slots :=
  let (f, sl) := acc
  let s := f.tray t
  match s.taps with
  | p :: rest =>
    if sl.length < 23 then
      (f.setTray t { s with taps := rest }, sl ++ [(p.slots.1, f.xc - p.xc), (p.slots.2, f.xc - p.xc)])
    else acc
  | [] => acc

/-- The passes over the tap buffers (R116). -/
def fillTaps (order : List (Fin 4)) : Nat → Fv × Slots → Fv × Slots
  | 0, acc => acc
  | k + 1, acc =>
    let acc' := order.foldl tapTurn acc
    if acc'.2.length = acc.2.length then acc' else fillTaps order k acc'

/-- The discard of R114 in one tray: hits and tap pairs of age 31 or more. -/
def Fv.ageDiscard (f : Fv) (t : Tray) : Fv :=
  let s := f.tray t
  let old (x : Nat) : Bool := 31 ≤ f.xc - x
  let gone := s.hits.filter (fun h => old h.xc)
  let pairs := (s.taps.filter (fun p => old p.xc)).length
  let g := f.setTray t { s with hits := s.hits.filter (fun h => !old h.xc), taps := s.taps.filter (fun p => !old p.xc) }
  (gone.foldl (fun g h => if h.high then g.loseHigh t h.xc else g.dropLow t) g).bump (0x1C0C + t.val) pairs

/-- The discard of R114 in all trays. -/
def Fv.ageDiscardAll (f : Fv) : Fv := (idx 4).foldl (fun g t => g.ageDiscard t) f

/-- The discard before the first fill after a reference return (R138): these losses enter no report. -/
def Fv.returnDiscard (f : Fv) : Fv :=
  (idx 4).foldl (fun g t =>
    let s := g.tray t
    let old (x : Nat) : Bool := 31 < g.xc - x
    let gone := s.hits.filter (fun h => old h.xc)
    let pairs := (s.taps.filter (fun p => old p.xc)).length
    let g1 := g.setTray t { s with hits := s.hits.filter (fun h => !old h.xc), taps := s.taps.filter (fun p => !old p.xc) }
    ((g1.bump (0x2000 + t.val) (gone.filter (·.high)).length).bump (0x2004 + t.val) (gone.filter (!·.high)).length).bump
      (0x1C0C + t.val) pairs) f

/-- The age map beats of 24 ages (R120). -/
def ageBeats (ages : List Nat) : List Dbl :=
  (List.range 3).map (fun b => dof ((List.range 8).foldl (fun a j => a + ages.getD (8 * b + j) 0 * 2 ^ (35 - 5 * j)) 0))

/-- The beat of a saturation notice (R121). -/
def Notice.beat (n : Notice) (m : Nat) : Dbl :=
  dof (2 ^ 39 + n.bonbon / 16 * 2 ^ 37 + n.bonbon % 16 * 2 ^ 33 + n.chan * 2 ^ 29 + min (m - n.xc) 31 * 2 ^ 24 + n.toa * 2 ^ 9)

/-- The loss report with its reference crossing R (R125). -/
def Fv.lossBeat (f : Fv) (r : Nat) : Dbl :=
  dof ((idx 4).foldl (fun a t =>
    match (f.tray t).loss with
    | some (o, n) => a + (min (r - o) 31 * 2 ^ 5 + min (r - n) 31) * 2 ^ (10 * t.val)
    | none => a) 0)

/-- The header of a frame, SAFE and INJ apart (R118). -/
def Fv.header (f : Fv) (sw ldrop ovf resync : Bool) : Dbl :=
  let fill (t : Fin 4) : Nat := min ((f.tray t).hits.length / 4) 15
  dof (f.num * 2 ^ 28 + f.epoch * 2 ^ 24 + fill 3 * 2 ^ 20 + fill 2 * 2 ^ 16 + fill 1 * 2 ^ 12 + fill 0 * 2 ^ 8 +
    f.refPort.bit * 2 ^ 6 + b2n sw * 2 ^ 5 + b2n ldrop * 2 ^ 4 + b2n ovf * 2 ^ 3 + b2n resync * 2 ^ 2)

/-- The phase control word of a tray (R126). -/
def Fv.phaseBeat (f : Fv) (t : Nat) : Dbl :=
  let w := f.rd (0x1C08 + t)
  dof (2 * 2 ^ 38 + t * 2 ^ 36 + b2n (wbit w 19) * 2 ^ 35 + fld w 15 0 * 2 ^ 19)

/-- The reply control word (R126). -/
def FvReply.beat (r : FvReply) : Dbl :=
  dof (2 ^ 38 + r.port.bit * 2 ^ 37 + r.tag * 2 ^ 31 + r.status.code * 2 ^ 23 + r.data.toNat)

/-- The control word of frame M (R127): a phase word, or the oldest reply that may go. -/
def Fv.controlBeat (f : Fv) : Fv × Dbl :=
  match f.replies with
  | r :: rest =>
    if f.num % 64 ≥ 4 ∧ r.after ≤ f.xc then ({ f with replies := rest }, r.beat) else (f, f.phaseBeat (f.num % 4))
  | [] => (f, f.phaseBeat (f.num % 4))

/-- The two oldest notices of crossings before this one (R122), taken for the frame, with their counts (R147). -/
def Fv.takeNotices (f : Fv) : Fv × List Notice :=
  let due := (f.notices.filter (fun n => n.xc < f.xc)).take 2
  let g := { f with notices := f.notices.filter (fun n => !due.contains n) }
  ((g.bump 0x200D due.length).bump 0x200E (due.filter (fun n => n.xc + 1 < f.xc)).length, due)

/-- The notice beats of a frame. -/
def noticeBeats (ns : List Notice) (m : Nat) : List Dbl :=
  [(ns[0]?.map (·.beat m)).getD 0, (ns[1]?.map (·.beat m)).getD 0]

/-- The 32 beats of a frame: the check over beats 0-30 and the status byte closes it (R128). -/
def FvFrame.sealed (fr : FvFrame) : List Dbl :=
  fr.beats ++ [dof (crc32 (dblBits fr.beats ++ bitsMsb fr.status 8) * 2 ^ 8 + fr.status)]

/-- A frame with the header flags that the whole crossing decides: SAFE and INJ (R118). -/
def Fv.patched (f : Fv) (fr : FvFrame) : FvFrame :=
  let hd := (fr.beats.headD 0) ||| dof (b2n (f.safe || f.wasSafe) * 2 ^ 7 + b2n f.injPulse * 2)
  { fr with beats := hd :: fr.beats.tail }

/-- A reference switch ends (R144): rings that still wait stop with an overflow, arithmetic under way lost eight periods,
the new port is the reference port. -/
def Fv.restart (f : Fv) : Fv :=
  match f.sw with
  | none => f
  | some s =>
    if s.restarted then f
    else
      let stop := 8 * s.first + 4
      let g := f.chans.foldl (fun g p => g.overflowAt p.1 (stop + 8)) f
      { g with
        trays := g.trays.map (fun (t : TraySt) =>
          { t with pipe := t.pipe.map (fun (x : Taken) => if stop < x.due then { x with due := x.due + 8 } else x) })
        sw := some { s with restarted := true }, refPort := s.port }

/-- Arming reopens (R144): an armed channel whose timing discriminator is high counts ORDER. -/
def Fv.reopen (f : Fv) : Fv :=
  f.chans.foldl (fun g p =>
    let c := g.chan p.1
    match c.phase with
    | .idle _ =>
      if c.up (g.timing p.1) ∧ g.masked p.1 (g.timing p.1) = false then
        { g with orderCnt := cntUp g.orderCnt p.1 }.setChan p.1 { c with phase := .blocked }
      else g
    | _ => g) f

/-- The condition of R143 on the frames of the crossing that ends, or the switch that REFLOSS asks for (R137). -/
def Fv.switchTo (f : Fv) (v : Variant) : Option BnId :=
  if v = .sln2 ∨ f.sw.isSome then none
  else
    match f.reflossAsk with
    | some p => some p
    | none =>
      let other := f.refPort.other
      if (f.port other).gotPrev = some true ∧ (f.port f.refPort).gotPrev ≠ some true then some other else none

/-- A phase measurement shows in PHASE_MON two crossings after it (R101). -/
def Fv.showPhase (f : Fv) (t : Tray) : Fv :=
  match (f.tray t).phasePend with
  | some (x, w) => if x ≤ f.xc then (f.wr (0x1C08 + t.val) w).setTray t { f.tray t with phasePend := none } else f
  | none => f

/-- What the die counts and clears at a boundary: SILENT (R137), the frames of the ports, the notices of R124. -/
def Fv.roll (f : Fv) : Fv :=
  let sh (p : FvPort) : FvPort := { p with gotPrev := p.got, got := none }
  let lhNow := f.portA.got = some true ∨ f.portB.got = some true
  { f with
    wasSafe := f.safe, injPulse := false, portA := sh f.portA, portB := sh f.portB, served := none,
    silent := if lhNow then 0 else min (f.silent + 1) 1024,
    discards := f.discards.filter (fun n => f.xc < n.xc + 40), reflossAsk := none }

/-- The frame of the crossing before is kept as it left, the settings come into force (R62). -/
def Fv.turn (f : Fv) : Fv := { f with oldVals := [], prevFrame := f.frame.map f.patched, frame := none }

/-- What every crossing boundary does on the die: settings come into force (R62), domains follow their requests (R476),
phase measurements show (R101), the frame of the crossing before is kept as it left. -/
def Fv.boundary (f : Fv) (v : Variant) : Fv :=
  let fdoms := (f.oldVals.filter (fun p => 0x2400 ≤ p.1 && p.1 < 0x2484)).map (fun p => p.1 - 0x2400)
  ((idx 4).foldl Fv.showPhase (fdoms.foldl (Fv.followReq v) f.turn)).roll

/-- The choice of R116: high-band hits, low-band hits, tap pairs. -/
def Fv.choose (f : Fv) : Fv × Slots :=
  let order := passOrder f.num
  fillTaps order 12 (fillBand false order 24 (fillBand true order 24 (f, [])))

/-- Whether a tray has a loss to report (R125). -/
def Fv.hasLoss (f : Fv) : Bool := (idx 4).any (fun t => (f.tray t).loss.isSome)

/-- Beat 30: the loss report, or the control word (R125-R127). -/
def Fv.lastBeat (f : Fv) (ovf sw : Bool) : Fv × Dbl :=
  if ovf then (f, f.lossBeat (if sw then f.xc - 2 else f.xc)) else f.controlBeat

/-- The port bits of the status byte (R128). -/
def Fv.portStatus (f : Fv) : Nat :=
  b2n f.portA.gotPrev.isSome * 2 ^ 7 + b2n f.portB.gotPrev.isSome * 2 ^ 6 +
    b2n (f.portA.gotPrev == some true) * 2 ^ 5 + b2n (f.portB.gotPrev == some true) * 2 ^ 4

/-- The beats of a frame from its parts; slots that stayed empty are 0 (R116, R117). -/
def frameBeats (hd : Dbl) (slots : Slots) (ns : List Notice) (m : Nat) (b30 : Dbl) : List Dbl :=
  let sl := slots ++ List.replicate (24 - slots.length) (0#40, 0)
  hd :: (sl.map (·.1) ++ ageBeats (sl.map (·.2)) ++ noticeBeats ns m ++ [b30])

/-- The frame leaves; what it reported starts anew. -/
def Fv.emit (f : Fv) (fr : FvFrame) : Fv :=
  { f with
    frame := some fr, ldrop := false, resync := f.resync - 1,
    trays := f.trays.map (fun (t : TraySt) => { t with loss := none, occ := t.hits.length }) }

/-- Fill and send the frame of the crossing that has begun (R116-R128). -/
def Fv.fill (f : Fv) (swFlag : Bool) : Fv :=
  let x3 := f.choose
  let f4 := x3.1.ageDiscardAll
  let ovf := f4.hasLoss
  let hd := x3.1.header swFlag f.ldrop ovf (decide (0 < f.resync))
  let x5 := f4.takeNotices
  let x6 := x5.1.lastBeat ovf swFlag
  x6.1.emit ⟨frameBeats hd x3.2 x5.2 x6.1.xc x6.2, f.portStatus, x6.1.xc, x5.2⟩

/-- The start of a crossing on the FV die (R116, R131, R138, R144): the crossing number, then the frame, or the discard of a
crossing that a reference switch skips. -/
def Fv.nextCrossing (f : Fv) (v : Variant) : Fv :=
  if f.powered = false ∨ (f.portA.refOn = false ∧ f.portB.refOn = false) ∨ (f.renumber = true ∧ f.named = none) then f
  else
    let k := f.named.getD ((f.num + 1) % 4096)
    let jump := if f.renumber then (let d := (k + 4096 - f.num) % 4096; if d = 0 then 4096 else d) else 1
    let tgt := f.switchTo v
    let f1 := { f with xc := f.xc + jump, num := k, named := none }
    let f2 := f1.boundary v
    let f3 := if f.renumber then { f2.returnDiscard with renumber := false } else f2
    match tgt with
    | some p =>
      { f3.ageDiscardAll with sw := some ⟨f3.xc, p, false⟩ }.bump 0x402 (if (f3.rd 0x402).toNat < 0xFFFF then 1 else 0)
    | none =>
      match f3.sw with
      | none => f3.fill false
      | some s =>
        if f3.xc < s.first + 2 then f3.ageDiscardAll
        else
          let g := { f3.restart with sw := none }
          g.reopen.fill true

/-- Injection pulses due in a crossing that is skipped count as made (R144). -/
def Fv.skipPulse (f : Fv) : Fv :=
  match f.sw, f.train with
  | some s, some t =>
    if s.first ≤ f.xc ∧ f.xc < s.first + 2 ∧ t.next = f.xc then
      { f with train := if t.left ≤ 1 then none else some { t with next := t.next + t.period, left := t.left - 1 } }
    else f
  | _, _ => f

/-- An injection pulse in its crossing (R70, R138). -/
def Fv.pulse (f : Fv) : Fv :=
  match f.train with
  | none => f
  | some t =>
    if t.next = f.xc ∧ f.sw.isNone then
      { f with injPulse := true
               train := if t.left ≤ 1 then none else some { t with next := t.next + t.period, left := t.left - 1 } }
    else f

/-- A CALPULSE arrives in the frame of crossing K+1 (R70, R71, R134): a train starts, unless one runs or the die is SAFE. -/
def Fv.calpulse (f : Fv) : Fv :=
  match f.train with
  | some _ => f.wr 0x1808 (setFld (f.rd 0x1808) 18 18 1)
  | none =>
    if f.safe then f
    else { f with train := some ⟨f.xc + fld (f.rd 0x1805) 7 0, fld (f.rd 0x1807) 15 0, fld (f.rd 0x1806) 15 0,
      (List.range 4).map (fun t => f.rd (0x1800 + t)), f.rd 0x1804⟩ }

/-- What D0 and D1 command when they carry authority (R132-R135, R533): ENF, CALPULSE, a scale word, an impress announced. -/
def Fv.obey (f : Fv) (d0 d1 : Nat) : Fv :=
  let g := f.wr 0x808 (setFld (f.rd 0x808) 2 2 (b2n (d0.testBit 26)))
  let g := if d0.testBit 25 then g.calpulse else g
  let g := if d0.testBit 24 then { g with scalePend := some (wof d0) } else g
  if d1.testBit 39 then { g with armed := some (bitsOf d1 38 33, bitsOf d1 32 21) } else g

/-- A request enters the queue of its port, in order of crossing and port (R136). -/
def Fv.addReq (f : Fv) (r : FvReq) : Fv :=
  if (f.reqs.filter (fun q => q.port == r.port)).length < 8 then
    { f with reqs := insertBy (fun a b => a.xc == b.xc && a.port == .a && b.port == .b) r f.reqs }
  else f

/-- What every good frame of a port tells (R129, R130, R137, R579): the port's lease bit, and from the reference port the crossing. -/
def Fv.hear (f : Fv) (u : BnId) (d0 : Nat) : Fv :=
  let p := f.port u
  let lh := d0.testBit 27
  let f1 := f.setPort u { p with got := some lh, lh := lh, trained := p.trained || p.wasTrained }
  let f2 := if u == f.refPort then
      { f1 with named := if bitsOf d0 39 28 = f.num ∧ f.renumber = false then none else some (bitsOf d0 39 28) }
    else f1
  if lh then { f2 with silent := 0 } else f2

/-- A BN frame arrives on a port (R129-R136, R579): D0-D7 as received. -/
def Fv.receive (f : Fv) (u : BnId) (ws : List Dbl) : Fv :=
  let w (i : Nat) : Nat := (ws.getD i 0).toNat
  if f.powered = false ∨ (f.port u).refOn = false then f
  else if crc32 (dblBits (ws.take 7)) ≠ bitsOf (w 7) 39 8 then f.bump (match u with | .a => 0x2801 | .b => 0x2802) 1
  else
    let auth : Bool := u == f.refPort && (w 0).testBit 27
    let f1 := f.hear u (w 0)
    let f2 := if auth then f1.obey (w 0) (w 1) else f1
    if (w 2).testBit 39 then
      f2.addReq ⟨u, bitsOf (w 2) 38 37, bitsOf (w 2) 36 31, bitsOf (w 2) 30 27, bitsOf (w 2) 16 0, wof (w 3), f.xc + 1, auth⟩
    else f2

/-- Serve the oldest waiting request (R132, R136, R142): one a crossing, only with room for its reply. -/
def Fv.serve (v : Variant) (d : Die) (f : Fv) : Fv :=
  if f.powered = false ∨ f.served = some f.xc ∨ 8 ≤ f.replies.length ∨ (f.portA.refOn = false ∧ f.portB.refOn = false) then f
  else
    match f.reqs with
    | [] => f
    | r :: rest =>
      let f1 := { f with reqs := rest, served := some f.xc }
      if r.epoch ≠ f.epoch then f1.bump 0x2803 1
      else
        let (f2, st, w) : Fv × Status × Word :=
          if r.op = 0 then f1.read v d r.off
          else if r.auth = false then (f1, .notActive, 0)
          else if r.op = 1 then (let x := f1.write v r.off r.data; (x.1, x.2, 0))
          else if r.op = 2 then (let x := f1.stage r.off r.data; (x.1, x.2, 0))
          else (f1, .range, 0)
        { f2 with replies := f2.replies ++ [⟨r.port, r.tag, st, w, r.xc + 2⟩] }

/-- The armed impress falls in this crossing (R135): the staged bank is applied and the frame says so. -/
def Fv.impressNow (v : Variant) (f : Fv) : Fv :=
  match f.armed with
  | some (tag, ixc) =>
    if f.num = ixc then
      let g := f.impress v
      { g with armed := none, lastTag := tag
               frame := g.frame.map (fun fr => if fr.xc = g.xc then { fr with status := fr.status ||| 4 } else fr) }
    else f
  | none => f

/-- A new scale word takes effect at a crossing whose number is a multiple of 1024 (R27, R133). -/
def Fv.scaleNow (f : Fv) : Fv :=
  match f.scalePend with
  | some s =>
    if f.num % 1024 = 0 then
      let g := (f.wr 0x1C01 s).wr 0x1C02 (wof f.num)
      { g with scalePend := none, scalePrev := f.rd 0x1C01, scaleFrom := f.xc
               frame := g.frame.map (fun fr => if fr.xc = g.xc then { fr with status := fr.status ||| 8 } else fr) }
    else f
  | none => f

/-- A notice that enters before edge 4 of the crossing can still take a notice beat of the frame already filled (R122). -/
def Fv.lateNotice (f : Fv) (e : Edge) : Fv :=
  match f.frame with
  | some fr =>
    if e.val < 4 ∧ fr.xc = f.xc ∧ fr.notices.length < 2 then
      let due := (f.notices.filter (fun n => n.xc < f.xc)).take (2 - fr.notices.length)
      let ns := fr.notices ++ due
      let g := (f.bump 0x200D due.length).bump 0x200E (due.filter (fun n => n.xc + 1 < f.xc)).length
      { g with
        notices := g.notices.filter (fun n => !due.contains n)
        frame := some { fr with notices := ns, beats := fr.beats.take 28 ++ noticeBeats ns fr.xc ++ fr.beats.drop 30 } }
    else f
  | none => f

end Sys2Proof.Machine
end

