-- ==== Sys2Proof/Machine/Rs.lean ====
section
/-! DEFINITION. The storage code: the shortened Reed-Solomon code over GF(2^8) of R281-R283. -/

namespace Sys2Proof.Machine

/-- Multiplication by x in GF(2^8) on 11Dh. -/
def gfX2 (a : Nat) : Nat := if 128 ≤ a then (2 * a) ^^^ 0x11D else 2 * a

/-- Multiplication in GF(2^8), over the eight bits of the second factor. -/
def gfMulBits : Nat → Nat → Nat → Nat
  | 0, _, _ => 0
  | k + 1, a, b => (if b % 2 = 1 then a else 0) ^^^ gfMulBits k (gfX2 a) (b / 2)

/-- Multiplication in GF(2^8) (R281). -/
def gfMul (a b : Nat) : Nat := gfMulBits 8 a b

/-- Powers of α = 02h. -/
def gfExp : Nat → Nat
  | 0 => 1
  | n + 1 => gfX2 (gfExp n)

/-- The logarithm to base α of a nonzero element; 255 for zero. -/
def gfLogFrom (a : Nat) : Nat → Nat → Nat → Nat
  | 0, n, _ => n
  | k + 1, n, p => if p = a then n else gfLogFrom a k (n + 1) (gfX2 p)

/-- The logarithm to base α. -/
def gfLog (a : Nat) : Nat := gfLogFrom a 255 0 1

/-- The check symbols of the data and address symbols, highest position first: division by g(x) (R281). -/
def rsRem : List Nat → Nat × Nat × Nat → Nat × Nat × Nat
  | [], r => r
  | s :: t, (r2, r1, r0) =>
    let fb := s ^^^ r2
    rsRem t (r1 ^^^ gfMul fb 0x07, r0 ^^^ gfMul fb 0x0E, gfMul fb 0x08)

/-- The bytes of a number, lowest first. -/
def bytesOf (n : Nat) : Nat → List Nat
  | 0 => []
  | k + 1 => n % 256 :: bytesOf (n / 256) k

/-- A number from its bytes, lowest first. -/
def ofBytes : List Nat → Nat
  | [] => 0
  | b :: t => b + 256 * ofBytes t

/-- The stored symbols c0-c12 of a codeword: three check symbols, then ten data symbols (R281). -/
def rsEncode (addr data : Nat) : List Nat :=
  let syms := bytesOf data 10 ++ bytesOf addr 3
  let (r2, r1, r0) := rsRem syms.reverse (0, 0, 0)
  r0 :: r1 :: r2 :: bytesOf data 10

/-- What a decode finds (R283). -/
inductive Outcome4 where
  | clean
  | corrected
  | uncorrectable
  | addressFault
deriving DecidableEq, Repr

/-- A syndrome: the sum of r[i]·α^(j·i). -/
def rsSyn (j : Nat) (r : List Nat) : Nat :=
  (r.zipIdx.map (fun p => gfMul p.1 (gfExp (j * p.2 % 255)))).foldl (· ^^^ ·) 0

/-- The decoder of R283 on sixteen symbols: the outcome and the symbols after correction. -/
def rsDecode (r : List Nat) : Outcome4 × List Nat :=
  let s0 := rsSyn 0 r
  let s1 := rsSyn 1 r
  let s2 := rsSyn 2 r
  if s0 = 0 ∧ s1 = 0 ∧ s2 = 0 then (.clean, r)
  else if s0 = 0 ∨ s1 = 0 ∨ s2 = 0 then (.uncorrectable, r)
  else if gfMul s1 s1 ≠ gfMul s0 s2 then (.uncorrectable, r)
  else
    let i := (gfLog s1 + 255 - gfLog s0) % 255
    if 15 < i then (.uncorrectable, r)
    else if 13 ≤ i then (.addressFault, r)
    else (.corrected, r.set i (r.getD i 0 ^^^ s0))

/-- A read of a stored codeword that carries an error pattern over its 104 bits (positions 0-12): the outcome and the ten
data symbols as the reader uses them; the pattern 0 leaves a valid codeword, which decodes CLEAN. -/
def rsRead (addr data flips : Nat) : Outcome4 × Nat :=
  if flips = 0 then (.clean, data)
  else
    let stored := (rsEncode addr data).zipWith (· ^^^ ·) (bytesOf flips 13)
    let (o, r) := rsDecode (stored ++ bytesOf addr 3)
    (o, ofBytes ((r.drop 3).take 10))

/-- The data symbols of a stored codeword as they stand, undecoded (R284 replay read). -/
def rsRaw (data flips : Nat) : Nat := data ^^^ (flips / 2 ^ 24)

/-- The 24-bit address of a galley cell (R282). -/
def addrCell (a : Nat) : Nat := a

/-- The 24-bit address of a link codeword (R282). -/
def addrLink (w : Nat) : Nat := 3 * 2 ^ 22 + w

/-- The 24-bit address of a pantry codeword (R282). -/
def addrPantry (w : Nat) : Nat := 3 * 2 ^ 22 + 2 ^ 21 + w

/-- One vector of the checker self-test (R305): the sixteen symbols fed to the decoder, and what must come out. -/
structure Vector4 where
  syms : List Nat
  want : Outcome4
  out : List Nat
deriving DecidableEq, Repr

/-- A codeword of given data and address, all sixteen symbols. -/
def rsWord (addr data : Nat) : List Nat := rsEncode addr data ++ bytesOf addr 3

/-- The word 5_A5A5h repeated over the 80 data bits. -/
def pattern80 : Nat := 0x5A5A5 * 2 ^ 60 + 0x5A5A5 * 2 ^ 40 + 0x5A5A5 * 2 ^ 20 + 0x5A5A5

/-- The fixed vectors of the checker self-test (R305). -/
def checkerVectors : List Vector4 :=
  let base := rsWord 0xA5A5 pattern80
  let flip (i e : Nat) (r : List Nat) : List Nat := r.set i (r.getD i 0 ^^^ e)
  [⟨rsWord 0 0, .clean, rsWord 0 0⟩, ⟨base, .clean, base⟩] ++
  (List.range 13).flatMap (fun i => [1, 0x80, 0xFF].map (fun e => ⟨flip i e base, .corrected, base⟩)) ++
  [13, 14, 15].flatMap (fun i => [1, 0x80].map (fun e => ⟨flip i e base, .addressFault, flip i e base⟩)) ++
  (List.range 13).flatMap (fun i => [(1, 0x80), (0x80, 1)].map (fun p =>
    ⟨flip (i + 3) p.2 (flip i p.1 base), .uncorrectable, flip (i + 3) p.2 (flip i p.1 base)⟩))

/-- How many checker vectors give another result than expected (R305). -/
def checkerFails : Nat := (checkerVectors.filter (fun v => rsDecode v.syms ≠ (v.want, v.out))).length

end Sys2Proof.Machine
end

