-- ==== Sys2Proof/Machine/Ops.lean ====
section
/-! DEFINITION. The named operations over the dies: reading and storing BN words (R18-R21), counters, domains, the free
values, the pantry (R488-R491). -/

namespace Sys2Proof.Machine

/-- A BN die. -/
def State.bn (s : State) : BnId → Bn
  | .a => s.bnA
  | .b => s.bnB

/-- Replace a BN die. -/
def State.setBn (s : State) (u : BnId) (b : Bn) : State :=
  match u with
  | .a => { s with bnA := b }
  | .b => { s with bnB := b }

/-- Change a BN die. -/
def State.mapBn (s : State) (u : BnId) (f : Bn → Bn) : State := s.setBn u (f (s.bn u))

/-- An FV die. -/
def State.fv (s : State) (d : Die) : Fv := s.fvs[d]

/-- Replace an FV die. -/
def State.setFv (s : State) (d : Die) (f : Fv) : State := { s with fvs := s.fvs.set d f }

/-- Change an FV die. -/
def State.mapFv (s : State) (d : Die) (g : Fv → Fv) : State := s.setFv d (g (s.fv d))

/-- Whether the variant has a BN die (R6). -/
def State.hasBn (s : State) : BnId → Bool
  | .a => true
  | .b => s.variant != .sln2

/-- The FV dies present, in die order. -/
def State.dies (s : State) : List Die := (idx 6).filter s.variant.hasFv

/-- Draw a free value of a kind (log entry 5). -/
def State.free (s : State) (kind : Nat) : State × Nat :=
  ({ s with freeCtr := s.freeCtr + 1 }, Config.freeValue kind s.freeCtr)

/-- The reset QUOTA word of a queue (R294). -/
def quotaReset (q : Nat) : Nat :=
  if q ≤ 5 then 2 ^ 18 + 16384 else if q = 6 then 2 ^ 18 + 8192 else if q = 7 then 2 ^ 18 + 4096
  else if q = 32 then 32768 else if q = 33 then 2 ^ 19 + 4096 else if q = 34 then 2 ^ 19 + 2048
  else if q = 35 then 2 ^ 18 + 16384 else if 48 ≤ q then 2 ^ 19 + 1024 else 0

/-- The reset value of word i of a sequence entry in an SLN-8 (R521, R524); a variant with fewer FV dies writes the others at
its first power-up. -/
def sqReset (e i : Nat) : Nat :=
  if i = 0 then (if e = 0 then 0xE001E else if e ≤ 6 then 0xE0017 + e else 0)
  else if i = 1 then 0x4000A
  else if i = 5 then 0x40000
  else 0

/-- The reset value of a BN word (R20): the map's, but for the words that the spec gives entry by entry: Q_CFG (R294) and
the sequence table (R524). -/
def bnDef (off : Nat) : Word :=
  if 0x2C40 ≤ off ∧ off < 0x2D40 ∧ off % 4 = 0 then wof (quotaReset ((off - 0x2C40) / 4))
  else if 0x3100 ≤ off ∧ off < 0x3300 then wof (sqReset ((off - 0x3100) / 8) (off % 8))
  else
    match rowOf bnMap off with
    | some r => wof r.reset
    | none => 0

/-- The stored value of a BN word. -/
def Bn.rd (b : Bn) (off : Nat) : Word := mget b.regs off (bnDef off)

/-- Store a BN word. -/
def Bn.wr (b : Bn) (off : Nat) (v : Word) : Bn := { b with regs := mput b.regs off v (bnDef off) }

/-- Store a number in a BN word. -/
def Bn.wrN (b : Bn) (off n : Nat) : Bn := b.wr off (wof n)

/-- Add to a saturating counter word of `n` bits. -/
def Bn.bumpN (b : Bn) (off k n : Nat) : Bn := b.wr off (satAdd (b.rd off) k n)

/-- Add 1 to a saturating 20-bit counter word. -/
def Bn.bump (b : Bn) (off : Nat) : Bn := b.bumpN off 1 20

/-- Set or clear one bit of a BN word. -/
def Bn.bit (b : Bn) (off i : Nat) (v : Bool) : Bn := b.wr off (setFld (b.rd off) i i (b2n v))

/-- Words of a BN die set back to their reset values. -/
def Bn.clearWords (b : Bn) (offs : List Nat) : Bn := { b with regs := b.regs.filter (fun p => !offs.contains p.1) }

/-- A crossing of 48 bits stored in three words. -/
def Bn.wrXc (b : Bn) (off n : Nat) : Bn := ((b.wrN off n).wrN (off + 1) (n / 2 ^ 20)).wrN (off + 2) (bitsOf n 47 40)

/-- The crossing stored in three words. -/
def Bn.rdXc (b : Bn) (off : Nat) : Nat := xcOf (b.rd off) (b.rd (off + 1)) (b.rd (off + 2))

/-- A double stored in two words. -/
def Bn.wrDbl (b : Bn) (off n : Nat) : Bn := (b.wrN off (n / 2 ^ 20)).wrN (off + 1) n

/-- A domain of a BN die (R470). -/
def Bn.dom (b : Bn) (n : Nat) : Dom := mget b.power.doms n .offDom

/-- Replace a domain of a BN die. -/
def Bn.setDom (b : Bn) (n : Nat) (x : Dom) : Bn :=
  { b with power := { b.power with doms := mput b.power.doms n x .offDom } }

/-- Whether a domain is on. -/
def Bn.domOn (b : Bn) (n : Nat) : Bool := (b.dom n).power == .on

/-- Switch a domain on; its power-good is taken as given unless DOMAIN_WAKE_FAILURE says otherwise (log entry 9). -/
def Bn.domUp (b : Bn) (n : Nat) : Bn :=
  match (b.dom n).power with
  | .on => b
  | .failed => b
  | _ => b.setDom n ⟨.on, (b.dom n).woken, false, 0, 0, 1⟩

/-- Switch a domain off: clamps, clock, supply (R472). -/
def Bn.domOff (b : Bn) (n : Nat) : Bn :=
  if (b.dom n).power = .failed then b else b.setDom n .offDom

/-- A domain into RETAINED (R472). -/
def Bn.domRetain (b : Bn) (n : Nat) : Bn :=
  if (b.dom n).power = .on then b.setDom n { b.dom n with power := .retained, isolated := true } else b

/-- A domain back from RETAINED (R472). -/
def Bn.domResume (b : Bn) (n : Nat) : Bn :=
  if (b.dom n).power = .retained then b.setDom n { b.dom n with power := .on, isolated := false } else b

/-- A lane of a BN die. -/
def Bn.lane (b : Bn) (l : Lane) : LaneSt := b.lanes[l]

/-- Replace a lane. -/
def Bn.setLane (b : Bn) (l : Lane) (x : LaneSt) : Bn := { b with lanes := b.lanes.set l x }

/-- Whether the downlink is locked (R374). -/
def Bn.dnLock (b : Bn) : Bool := !(b.lane 4).los && !(b.lane 4).lol

/-- The retained default of a pantry word (R488, R544): the reset value of its field. -/
def pantryDef (w : Nat) : Word :=
  if w = 0 then 0x00A51#20
  else if w = 3 then 10
  else if w = 0x000B then bnDef 0x2001
  else if w = 0x000C then 600
  else if 0x0010 ≤ w ∧ w ≤ 0x0016 then 0x84#20
  else if 0x0060 ≤ w ∧ w < 0x01E0 then wof (sqReset ((w - 0x0060) / 6) ((w - 0x0060) % 6))
  else if w = 0x01E0 then 100
  else if w = 0x01E1 then 7
  else if w = 0x01E2 then 3
  else if 0x0300 ≤ w ∧ w < 0x0360 then
    let i := w % 16
    if i < 4 then 0xC8#20 else if i < 8 then 0x50#20 else if i = 9 then 8 else if i = 10 then 48 else 0
  else if 0x0400 ≤ w ∧ w < 0x1C00 then 0x82050#20
  else 0

/-- A word of the pantry. -/
def Bn.pw (b : Bn) (w : Nat) : Word := mget b.pantry.words w (pantryDef w)

/-- Write a word of the pantry; the codeword is encoded anew. -/
def Bn.setPw (b : Bn) (w : Nat) (v : Word) : Bn :=
  { b with pantry := { b.pantry with words := mput b.pantry.words w v (pantryDef w), flips := mdel b.pantry.flips (w / 4) } }

/-- The pantry word of a retained FV word (R488): block 0300h for the die's own, block 0400h for CH_CFG. -/
def pantryFv (d : Die) (off : Nat) : Option Nat :=
  if 0x0800 ≤ off ∧ off < 0x0808 then some (0x0300 + 16 * d.val + (off - 0x0800))
  else if off = 0x0808 then some (0x0308 + 16 * d.val)
  else if off = 0x1C00 then some (0x0309 + 16 * d.val)
  else if off = 0x200C then some (0x030A + 16 * d.val)
  else if 0x1000 ≤ off ∧ off < 0x1800 ∧ off % 2 = 0 then some (0x0400 + 1024 * d.val + (off - 0x1000) / 2)
  else none

/-- The retained bits of an FV word, as the pantry keeps them (R488: CH_CFG with INJ_EN 0). -/
def keptFv (off : Nat) (v : Word) : Word :=
  match rowOf fvMap off with
  | some r => v &&& wof r.ao
  | none => 0

/-- The words of one FV die that a restore writes back, in ascending pantry order (R490). -/
def fvRetained : List Nat :=
  (List.range 8).map (0x0800 + ·) ++ [0x0808, 0x1C00, 0x200C] ++ (List.range 1024).map (fun c => 0x1000 + 2 * c)

/-- The pantry word of a retained BN word (R488). The sequence table and the settings of the HKC stand where R510 puts them. -/
def pantryBn (off : Nat) : Option Nat :=
  if off = 0x180C then some 0x000A
  else if off = 0x2001 then some 0x000B
  else if off = 0x0401 then some 0x000C
  else if off = 0x0C02 then some 0x0003
  else if 0x1C10 ≤ off ∧ off < 0x1C48 ∧ off % 8 = 1 then some (0x0010 + (off - 0x1C11) / 8)
  else if 0x2440 ≤ off ∧ off < 0x2480 then some (0x0020 + (off - 0x2440))
  else if off = 0x3002 then some 0x01E0
  else if off = 0x3003 then some 0x01E1
  else if off = 0x3004 then some 0x01E2
  else if 0x3100 ≤ off ∧ off < 0x3300 ∧ off % 8 < 6 then some (0x0060 + 6 * ((off - 0x3100) / 8) + off % 8)
  else none

/-- The bits of a BN word that are retained. -/
def keptBn (off : Nat) (v : Word) : Word :=
  match rowOf bnMap off with
  | some r => v &&& wof r.ao
  | none => 0

/-- A change of a retained BN word updates its pantry word (R489). -/
def Bn.keep (b : Bn) (off : Nat) : Bn :=
  match pantryBn off with
  | some w => b.setPw w (keptBn off (b.rd off))
  | none => b

/-- Store a BN word and its pantry copy. -/
def Bn.wrKeep (b : Bn) (off : Nat) (v : Word) : Bn := (b.wr off v).keep off

/-- The current crossing counter. -/
def Bn.now (b : Bn) : Nat := b.time.counter

/-- The unit's own crossing count, which no XRESET moves: durations run on it (log entry 11). -/
def Bn.xc (b : Bn) : Nat := b.time.xc

/-- The global compositor cycle of the die. -/
def Bn.cycle (b : Bn) : Nat := 32 * b.time.xc + b.cyc

/-- Ask for an access to an FV die (R136). -/
def Bn.ask (b : Bn) (d : Die) (op off : Nat) (data : Word) (owner : ReqOwner) : Bn :=
  { b with reqs := b.reqs ++ [⟨d, op, off, data, owner, b.xc, none, 0, 0⟩] }

end Sys2Proof.Machine
end

