-- ==== Sys2Proof/Machine/GalleyOps.lean ====
section
/-! DEFINITION. The galley (R277-R304): cells, free list, link faults, queue writes and reads, flush, water marks, scrubs. -/

namespace Sys2Proof.Machine

/-- Change the galley of a BN die. -/
def Bn.mapGal (b : Bn) (f : Galley → Galley) : Bn := { b with gal := f b.gal }

/-- A queue. -/
def Bn.queue (b : Bn) (q : Nat) : Queue := mget b.gal.queues q .empty

/-- Replace a queue. -/
def Bn.setQueue (b : Bn) (q : Nat) (x : Queue) : Bn := b.mapGal (fun g => { g with queues := mput g.queues q x .empty })

/-- A cell. -/
def Bn.cell (b : Bn) (a : Nat) : Cell := mget b.gal.cells a .blank

/-- Replace a cell. -/
def Bn.setCell (b : Bn) (a : Nat) (c : Cell) : Bn := b.mapGal (fun g => { g with cells := mput g.cells a c .blank })

/-- The 80 data bits of a cell: the first double in [79:40] (R277). -/
def Cell.data (c : Cell) : Nat := c.d0.toNat * 2 ^ 40 + c.d1.toNat

/-- The valid bit, by majority of its three copies (R285). -/
def Cell.isValid (c : Cell) : Bool :=
  (c.valid.testBit 0 && c.valid.testBit 1) || (c.valid.testBit 1 && c.valid.testBit 2) || (c.valid.testBit 0 && c.valid.testBit 2)

/-- The offset of the Q_CFG word of a queue. -/
def qCfg (q : Nat) : Nat := 0x2C40 + 4 * q

/-- The offset of the Q_STAT word of a queue. -/
def qStat (q : Nat) : Nat := 0x2C43 + 4 * q

/-- QUOTA of a queue. -/
def Bn.quota (b : Bn) (q : Nat) : Nat := fld (b.rd (qCfg q)) 17 0

/-- READER of a queue: 1 for the service port. -/
def Bn.reader (b : Bn) (q : Nat) : Bool := wbit (b.rd (qCfg q)) 19

/-- Add to a four-bit count of Q_STAT, saturating. -/
def Bn.qCount (b : Bn) (q hi lo : Nat) : Bn :=
  b.wr (qStat q) (setFld (b.rd (qStat q)) hi lo (min (fld (b.rd (qStat q)) hi lo + 1) 15))

/-- Cells of the free list and beyond BUMP. -/
def Galley.avail (g : Galley) : Nat := g.free.length + (0x30000 - g.bump)

/-- The reservations that the open items of the other queues still hold (R288). -/
def Bn.reserved (b : Bn) (q : Nat) : Nat :=
  (b.gal.queues.filter (fun p => p.1 != q && decide (0 < p.2.openLen))).foldl (fun a p => a + (9 - p.2.drawn)) 0

/-- Record a decode outcome of the galley or the link memory: counts, ERR_LAST, STORE_FAULT (R284). -/
def Bn.outcome (b : Bn) (o : Outcome4) (kind cell : Nat) : Bn :=
  match o with
  | .clean => b
  | .corrected => b.bump 0x2C0C
  | .uncorrectable => ((b.bump 0x2C0D).wrN 0x2C11 (kind * 2 ^ 18 + cell)).bit 0x2C01 17 true
  | .addressFault =>
    ((b.bump 0x2C0E).wrN 0x2C11 ((if kind = 3 then 3 else 2) * 2 ^ 18 + cell)).bit 0x2C01 17 true

/-- What a read of a link codeword finds: the code is linear, so the error pattern decides. -/
def Bn.linkOutcome (b : Bn) (cell : Nat) : Outcome4 :=
  (rsRead (addrLink (cell / 4)) 0 (mget b.gal.linkFlips (cell / 4) 0)).1

/-- Read the link word of a cell: whether it can be followed (R284, R300). -/
def Bn.followLink (b : Bn) (cell : Nat) : Bn × Bool :=
  let o := b.linkOutcome cell
  let bad : Bool := o == .uncorrectable || o == .addressFault
  (b.outcome o 3 (cell / 4 * 4), !bad)

/-- LINK_FAULT_CNT and LEAKED after a chain is cut (R300). -/
def Bn.leak (b : Bn) (k : Nat) : Bn :=
  (b.bump 0x2C0F).mapGal (fun g => { g with leaked := g.leaked + k })

/-- Take a cell for a write: the head of the free list, else the cell at BUMP (R287, R300). -/
def Bn.alloc (b : Bn) : Bn × Option Nat :=
  match b.gal.free with
  | h :: t =>
    let (b1, ok) := if t.isEmpty then (b, true) else b.followLink h
    if ok then (b1.mapGal (fun g => { g with free := t }), some h)
    else ((b1.leak t.length).mapGal (fun g => { g with free := [] }), some h)
  | [] =>
    if b.gal.bump < 0x30000 then (b.mapGal (fun g => { g with bump := g.bump + 1 }), some b.gal.bump) else (b, none)

/-- A cell returns to the head of the free list; its valid bit clears (R285, R287). -/
def Bn.release (b : Bn) (a : Nat) : Bn :=
  b.mapGal (fun g => { g with free := a :: g.free, cells := mdel g.cells a })

/-- ABOVE and HIGH_CNT after a change of occupancy (R296). -/
def Bn.marks (b : Bn) (q : Nat) : Bn :=
  let x := b.queue q
  let occ := x.cells.length
  let w := b.rd (qCfg q + 1)
  let high := b.quota q * (fld w 5 3 + 1) / 8
  let low := b.quota q * fld w 2 0 / 8
  if x.above = false ∧ high ≤ occ then (b.setQueue q { x with above := true }).qCount q 7 4
  else if x.above = true ∧ occ ≤ low then b.setQueue q { x with above := false }
  else b

/-- Whether a queue number is reserved (R294). -/
def qReserved (q : Nat) : Bool := decide (36 ≤ q) && decide (q < 48) || decide (64 ≤ q)

/-- Refuse a write: REFUSE_CNT counts it (R289). -/
def Bn.refuse (b : Bn) (q : Nat) : Bn := b.qCount q 3 0

/-- Store an admitted double at the tail of a queue (R285-R288), visible from a cycle on (R290). -/
def Bn.append (b : Bn) (q : Nat) (d : Dbl) (fin : Bool) (vis : Nat) : Bn :=
  let x := b.queue q
  let len := x.openLen + 1
  let close := fin || decide (16 ≤ len)
  let item (y : Queue) (extra : Nat) : Queue :=
    { y with openLen := if close then 0 else len, drawn := if close then 0 else y.drawn + extra
             mode := if !fin && close then .over else .normal }
  let last := x.cells.getLast?
  match last with
  | some c =>
    if c.full = false then
      let c' := { c with end1 := close, full := true, vis1 := vis }
      (b.setQueue q (item { x with cells := x.cells.dropLast ++ [c'] } 0)).setCell c.addr ⟨x.tailReg, d, 7, 0⟩
    else
      match b.alloc with
      | (b1, some a) =>
        ((b1.setQueue q (item { x with cells := x.cells ++ [⟨a, close, false, false, vis, 0⟩], tailReg := d } 1)).setCell a
          ⟨d, 0, 7, 0⟩).marks q
      | (b1, none) => b1
  | none =>
    match b.alloc with
    | (b1, some a) =>
      ((b1.setQueue q (item { x with cells := [⟨a, close, false, false, vis, 0⟩], headHalf := false, tailReg := d } 1)).setCell a
        ⟨d, 0, 7, 0⟩).marks q
    | (b1, none) => b1

/-- Write one double to a queue (R288, R289, R293): the die after it, and whether the double was stored. `svc` is the service
port; a compositor's write to queue 34 is refused. -/
def Bn.qWrite (b : Bn) (q : Nat) (d : Dbl) (fin svc : Bool) (vis : Nat) : Bn × Bool :=
  let x := b.queue q
  let setMode (b : Bn) (m : ItemMode) : Bn := b.setQueue q { x with mode := m }
  if b.quota q = 0 ∨ qReserved q = true ∨ (q = 34 ∧ svc = false) then (b.refuse q, false)
  else
    match x.mode with
    | .cut => ((if fin then setMode b .normal else b).qCount q 11 8, false)
    | .refusing => ((if fin then setMode b .normal else b).refuse q, false)
    | .over => ((if fin then setMode b .normal else b).refuse q, false)
    | .normal =>
      if x.openLen = 0 then
        let after := if fin then ItemMode.normal else .refusing
        if b.quota q < x.cells.length + 9 then (((setMode b after).refuse q).bit (qStat q) 15 true, false)
        else if b.gal.avail < b.reserved q + 9 then
          let b1 := (((setMode b after).refuse q).bit (qStat q) 16 true).bit 0x2C01 16 true
          (if q < 8 then b1.mapGal (fun g => { g with storeNow := g.storeNow ++ [q] }) else b1, false)
        else (b.append q d fin vis, true)
      else (b.append q d fin vis, true)

/-- Flush a queue at once (R293): its cells return from head to tail; a cut item is discarded up to its END. -/
def Bn.flushQueue (b : Bn) (q : Nat) : Bn :=
  let x := b.queue q
  let b1 := x.cells.foldl (fun b c => b.release c.addr) b
  b1.setQueue q { Queue.empty with
    mode := if 0 < x.openLen then .cut else x.mode, flushed := true, above := false }

/-- The head of a queue moves past one double; a cell whose second double is read returns, and its link is followed
(R287, R300). The head double must exist. -/
def Bn.consume (b : Bn) (q : Nat) : Bn :=
  let x := b.queue q
  match x.cells with
  | [] => b
  | c :: rest =>
    if x.headHalf then
      let (b1, ok) := if rest.isEmpty then (b, true) else b.followLink c.addr
      let b2 := b1.release c.addr
      if ok then (b2.setQueue q { x with cells := rest, headHalf := false }).marks q
      else
        ((b2.setQueue q { Queue.empty with mode := if 0 < x.openLen then .cut else x.mode, flushed := true }).leak
          rest.length).bit (qStat q) 17 true
    else b.setQueue q { x with headHalf := true }

/-- The head double of a queue, if it is visible at a cycle: its value position, and whether it ends an item. -/
def Queue.head (x : Queue) (cycle : Nat) : Option (Nat × Bool × Bool) :=
  match x.cells with
  | [] => none
  | c :: _ =>
    if x.headHalf then (if c.full ∧ c.vis1 ≤ cycle then some (c.addr, true, c.end1) else none)
    else if c.vis0 ≤ cycle then some (c.addr, false, c.end0) else none

/-- Discard doubles up to and including an END, as far as they are there (R290). -/
def Bn.discardItem (b : Bn) (q cycle : Nat) : Nat → Bn
  | 0 => b
  | k + 1 =>
    match (b.queue q).head cycle with
    | none => b.setQueue q { b.queue q with skip := true }
    | some (_, _, fin) =>
      let b1 := b.consume q
      if fin then b1.setQueue q { b1.queue q with skip := false } else b1.discardItem q cycle k

/-- Decode the half of a cell: the outcome and the double (R283, R285). -/
def Bn.readHalf (b : Bn) (a : Nat) (second : Bool) : Outcome4 × Dbl :=
  let c := b.cell a
  if c.isValid = false then (.clean, 0)
  else
    let (o, v) := rsRead (addrCell a) c.data c.flips
    (o, if second then dof v else dof (v / 2 ^ 40))

/-- What a read of a queue gives. -/
inductive QRead where
  | data (d : Dbl) (fin : Bool)
  | none
  | flushed
  | bad
deriving DecidableEq, Repr

/-- Read the head double of a queue (R290): a pending discard first, FLUSHED next, then the double. -/
def Bn.qRead (b0 : Bn) (q cycle : Nat) : Bn × QRead :=
  let b := if (b0.queue q).skip then b0.discardItem q cycle 17 else b0
  let x := b.queue q
  if x.flushed then (b.setQueue q { x with flushed := false }, .flushed)
  else
    match x.head cycle with
    | none => (b, .none)
    | some (a, second, fin) =>
      let (o, d) := b.readHalf a second
      let b1 := b.outcome o 1 a
      let b2 := b1.consume q
      match o with
      | .uncorrectable => (if fin then b2 else b2.discardItem q cycle 17, .bad)
      | .addressFault => (if fin then b2 else b2.discardItem q cycle 17, .bad)
      | _ => (b2, .data d fin)

/-- The doubles that stand in a queue. -/
def Queue.count (x : Queue) : Nat :=
  (x.cells.foldl (fun a c => a + (if c.full then 2 else 1)) 0) - b2n x.headHalf

/-- Write a whole item through the service port if it can be admitted; `none` when it must wait (R294, R431). -/
def Bn.qItem (b : Bn) (q : Nat) (ds : List Dbl) : Option Bn :=
  let x := b.queue q
  if x.cells.length + 9 ≤ b.quota q ∧ b.reserved q + 9 ≤ b.gal.avail ∧ x.mode = .normal ∧ x.openLen = 0 then
    some (ds.zipIdx.foldl (fun b p => (b.qWrite q p.1 (p.2 + 1 == ds.length) true b.cycle).1) b)
  else none

/-- WATCH_OCC: the occupancies of the watched queues that compositors read (R297). -/
def Bn.watchOcc (b : Bn) : Nat :=
  (b.gal.queues.filter (fun p => wbit (b.rd (qCfg p.1)) 18 && !b.reader p.1)).foldl (fun a p => a + p.2.cells.length) 0

/-- Empty the galley as at a flash clear: valid bits, queues, free list, leaked cells (R285, R468); the water flags follow
from the empty occupancy at the next boundary. -/
def Bn.flashClear (b : Bn) : Bn :=
  { b with gal := { Galley.empty with scrubPos := b.gal.scrubPos, linkFlips := b.gal.linkFlips } }

/-- One visit of the scrubber to a cell (R301): the die and the outcome, `none` for a cell that is not valid. -/
def Bn.visit (b : Bn) (a : Nat) : Bn × Option Outcome4 :=
  let c := b.cell a
  if c.isValid = false then (if c = .blank then b else b.setCell a { c with valid := 0 }, none)
  else
    let o := (rsRead (addrCell a) c.data c.flips).1
    let c1 := { c with valid := 7 }
    match o with
    | .corrected => (b.setCell a { c1 with flips := 0 }, some o)
    | .clean => (b.setCell a c1, some o)
    | _ => ((b.setCell a c1).outcome o 1 a, some o)

/-- The visit of the link codeword of a group of four pool cells, at its first cell (R301). -/
def Bn.visitLink (b : Bn) (a : Nat) : Bn × Option Outcome4 :=
  if a % 4 = 0 ∧ a < 0x30000 then
    let o := b.linkOutcome a
    match o with
    | .clean => (b, some o)
    | .corrected => (b.mapGal (fun g => { g with linkFlips := mdel g.linkFlips (a / 4) }), some o)
    | _ => (b.outcome o 3 a, some o)
  else (b, none)

/-- The next cell of the background scrub that needs a visit is the next in order (R301). -/
def Bn.scrubBackground (b : Bn) : Nat → Bn
  | 0 => b
  | k + 1 =>
    let a := b.gal.scrubPos
    let b1 := (b.visitLink a).1
    let b2 := (b1.visit a).1
    (b2.mapGal (fun g => { g with scrubPos := (a + 1) % 0x40000 })).scrubBackground k

/-- Count one outcome in the summary of a commanded scrub (R304). -/
def Bn.summary (b : Bn) (a : Nat) (o : Option Outcome4) : Bn :=
  let first (b : Bn) (off : Nat) : Bn := if wbit (b.rd off) 19 then b else b.wrN off (2 ^ 19 + a)
  match o with
  | some .corrected => first (b.bump 0x2C16) 0x2C19
  | some .uncorrectable => first (b.bump 0x2C17) 0x2C1A
  | some .addressFault => first (b.bump 0x2C18) 0x2C1B
  | _ => b

/-- One visit of a commanded scrub, with its summary (R302, R304). -/
def Bn.scrubOne (b : Bn) (a : Nat) : Bn :=
  let (b1, ol) := b.visitLink a
  let b2 := b1.summary a ol
  let (b3, oc) := b2.visit a
  let b4 := (b3.bump 0x2C14).summary a oc
  if oc.isSome then b4.bump 0x2C15 else b4

end Sys2Proof.Machine
end

