-- ==== Sys2Proof/Machine/Packet.lean ====
section
/-! DEFINITION. Command packets (R376, R377, R428-R431, R437, R441): framing, screening, replies; marks into queue 34 (R347). -/

namespace Sys2Proof.Machine

/-- The words of a mark (R351): type, extension word count, data. -/
def markWords (ty data : Nat) (w1 : Word) (ext : List Word) : List Word :=
  wof (7 * 2 ^ 17 + ty * 2 ^ 12 + ext.length * 2 ^ 8 + data) :: w1 :: ext

/-- Words two to a double; a last half is 0 (R286). -/
def toDoubles : List Word → List Dbl
  | [] => []
  | [a] => [dbl a 0]
  | a :: b :: t => dbl a b :: toDoubles t

/-- The words of a REPLY mark (R431); data words go only with the statuses that carry them. -/
def replyWords (tag op : Nat) (st : Status) (data : List Word) : List Word :=
  markWords 0x0B st.code (wof (tag * 2 ^ 14 + op * 2 ^ 6)) (data.take 15)

/-- Move held replies into queue 34 as far as it admits them (R294, R430). -/
def Bn.pumpReplies (b : Bn) : Nat → Bn
  | 0 => b
  | k + 1 =>
    match b.replies with
    | [] => b
    | (ws, waits) :: rest =>
      match b.qItem 34 (toDoubles ws) with
      | none => b
      | some b1 =>
        let after := if waits then replaceFirst (fun p => p.2.isNone) (fun p => (p.1, some b1.marksIn)) b1.power.after
          else b1.power.after
        { b1 with replies := rest, marksIn := b1.marksIn + 1, power := { b1.power with after := after } }.pumpReplies k

/-- Queue one reply (R430, R431). -/
def Bn.replyW (b : Bn) (tag op : Nat) (st : Status) (data : List Word) (waits : Bool) : Bn :=
  { b with replies := b.replies ++ [(replyWords tag op st data, waits)], last := st }.pumpReplies (b.replies.length + 1)

/-- Queue one reply that nothing waits for. -/
def Bn.reply (b : Bn) (tag op : Nat) (st : Status) (data : List Word) : Bn := b.replyW tag op st data false

/-- Queue a control-path mark of the HKC or the time service; it is dropped when queue 34 is full (R294). -/
def Bn.ctlMark (b : Bn) (ws : List Word) : Bn :=
  match b.qItem 34 (toDoubles ws) with
  | some b1 => { b1 with marksIn := b1.marksIn + 1 }
  | none => b.refuse 34

/-- The opcode of a header (R428). -/
def hdrOp (h : Word) : Nat := fld h 19 12

/-- L of a header (R428). -/
def hdrLen (h : Word) : Nat := fld h 11 6

/-- The tag of a header (R428). -/
def hdrTag (h : Word) : Nat := fld h 5 0

/-- The open packet is aborted by framing (R377). -/
def Bn.abortPkt (b : Bn) : Bn := if b.openPkt.isSome then { b.bump 0x1C04 with openPkt := none } else b

/-- One word of the open packet; the check word closes it (R377, R428). -/
def Bn.takeWord (b : Bn) (w : Word) : Bn :=
  match b.openPkt with
  | none => b
  | some p =>
    let ws := p.words ++ [w]
    match ws with
    | h :: t =>
      if t.length = hdrLen h + 1 then
        { b with openPkt := none, arrived := b.arrived ++ [⟨h, t.take (hdrLen h), w⟩] }
      else { b with openPkt := some { p with words := ws } }
    | [] => b

/-- A header word opens a packet (R376). -/
def Bn.openWith (b : Bn) (w : Word) : Bn := { b.abortPkt with openPkt := some ⟨[w], b.xc⟩ }

/-- The command words of a block whose CRC is valid (R376, R377). -/
def Bn.frameCmd (b : Bn) (ty : Nat) (cw0 cw1 : Word) : Bn :=
  match ty with
  | 0 => b
  | 1 => b.openWith cw0
  | 2 => (b.openWith cw0).takeWord cw1
  | 3 => if b.openPkt.isSome then b.takeWord cw0 else b.bump 0x1C03
  | 4 =>
    if b.openPkt.isSome then
      let b1 := b.takeWord cw0
      if b1.openPkt.isSome then b1.takeWord cw1 else b1.bump 0x1C03
    else b.bump 0x1C03
  | 5 => if b.openPkt.isSome then b.abortPkt else b.bump 0x1C03
  | _ => (b.bump 0x1C03).abortPkt

/-- The length range of an opcode (R441); `none` for a reserved opcode. -/
def opLen (op : Nat) : Option (Nat × Nat) :=
  [(0, 0), (0, 15), (8, 8), (0, 0), (2, 2), (2, 63), (2, 63), (1, 1), (4, 4), (0, 0), (2, 63), (0, 0), (4, 4), (3, 3), (0, 0),
    (1, 1), (1, 1), (1, 1), (1, 1), (1, 1), (7, 7), (5, 5), (0, 0), (0, 0), (0, 0), (1, 1), (1, 1), (1, 1), (1, 1), (0, 0),
    (1, 1), (1, 1), (1, 1), (3, 63), (14, 14), (11, 11), (2, 2)][op]?

/-- Whether L lies in the range of an opcode; STATE_RESTORE takes odd lengths only (R441). -/
def lenOk (op l : Nat) : Bool :=
  match opLen op with
  | some (lo, hi) => decide (lo ≤ l) && decide (l ≤ hi) && (op != 0x21 || l % 2 == 1)
  | none => false

/-- The code of a level (R437). -/
def Level.code : Level → Nat
  | .open => 0
  | .operate => 1
  | .service => 2

/-- The level that an opcode needs (R437, R441). -/
def opLevel (op : Nat) : Nat :=
  if op ≤ 0x04 ∨ op = 0x1C ∨ op = 0x1E then 0
  else if op = 0x1D ∨ op = 0x22 ∨ op = 0x23 ∨ op = 0x24 then 2
  else 1

/-- The screen of a complete packet (R429): the result of the first row that applies, `none` when it is queued. -/
def Bn.screenOf (b : Bn) (p : Pkt) : Option Status :=
  let op := hdrOp p.header
  if fld p.check 15 0 ≠ crc16 (p.header :: p.params) then some .check
  else if 4 ≤ b.waiting.length then some .busy
  else if (opLen op).isNone then some .badOpcode
  else if lenOk op (hdrLen p.header) = false then some .badLength
  else if b.sess.level.code < opLevel op then some .denied
  else none

/-- Whether a packet can be received and screened in a device state (R442). -/
def DevState.takesPackets : DevState → Bool
  | .minimal | .ready | .run | .doze => true
  | _ => false

/-- Whether a packet can be executed (R430, R442). -/
def DevState.runsPackets : DevState → Bool
  | .minimal | .ready | .run => true
  | _ => false

/-- Screen the next complete packet (R429). -/
def Bn.screen (b : Bn) : Bn :=
  match b.arrived with
  | [] => b
  | p :: rest =>
    let b1 := { b with arrived := rest }
    let op := hdrOp p.header
    let tag := hdrTag p.header
    match b.screenOf p with
    | some .check => (b1.bump 0x40A).reply tag op .check []
    | some .busy => (b1.bump 0x40C).reply tag op .busy []
    | some st => b1.reply tag op st []
    | none => { b1.bump 0x409 with waiting := b1.waiting ++ [p] }

/-- The open packet times out 256 crossings after its header (R429). -/
def Bn.pktTimeout (b : Bn) : Bn :=
  match b.openPkt with
  | some p =>
    if p.since + 256 ≤ b.xc then
      match p.words with
      | h :: _ => ({ b with openPkt := none }.bump 0x40B).reply (hdrTag h) (hdrOp h) .timeout []
      | [] => b
    else b
  | none => b

/-- The packet that a row of the table stands for. -/
def mkPkt (op : Nat) (tag : Tag) (ws : List Word) : Pkt :=
  let h := wof (op * 2 ^ 12 + ws.length % 64 * 2 ^ 6 + tag.toNat)
  ⟨h, ws, wof (crc16 (h :: ws))⟩

/-- The first parameter word of an opcode without the bits that the opcode ignores, for the opcodes whose rows name its fields
(R441, R444, R445): RESET_BLOCK, SELFTEST, ROLE_REQUEST, KEY_SET, PATCH_LOAD. -/
def firstParam (op : Nat) (w : Word) : Word :=
  if op = 0x1A then wof (fld w 19 17 * 2 ^ 17 + (if fld w 19 17 ≤ 5 then 0 else fld w 7 0))
  else if op = 0x1B then wof (fld w 1 0)
  else if op = 0x1F then wof (fld w 7 0)
  else if op = 0x22 then wof (fld w 19 19 * 2 ^ 19 + fld w 8 8 * 2 ^ 8 + fld w 2 0)
  else if op = 0x23 then wof (fld w 19 19 * 2 ^ 19 + fld w 5 0)
  else w

/-- Whether a packet that waits is the one that a row stands for: the same header, and the same parameters but for ignored bits. -/
def Pkt.asks (q p : Pkt) : Bool :=
  q.header == p.header && (match q.params, p.params with
  | a :: s, b :: t => firstParam (hdrOp q.header) a == firstParam (hdrOp p.header) b && s == t
  | s, t => s == t)

/-- How a packet row begins: not at all, queued behind the packet in execution, refused by the screen, or executed
(log entry 12). -/
inductive Start where
  | idle (b : Bn)
  | go (b : Bn)
deriving DecidableEq, Repr

/-- Begin the execution of a packet row: the head of the waiting packets, if it is that packet; else the packet is screened
first, as if its check word had just arrived. While a packet is in execution, the row waits in the queue (R430). -/
def Bn.begin (b : Bn) (op : Nat) (tag : Tag) (ws : List Word) : Start :=
  let p := mkPkt op tag ws
  if b.power.dev.takesPackets = false then .idle b
  else
    let queued := b.waiting.head?.any (fun q => q.asks p)
    if queued then
      if b.job.isSome ∨ b.power.dev.runsPackets = false ∨ b.power.clkWait = true then .idle b
      else .go { b with waiting := b.waiting.tail }
    else
      match b.screenOf p with
      | some .busy => .idle ((b.bump 0x40C).reply tag.toNat op .busy [])
      | some st => .idle (b.reply tag.toNat op st [])
      | none =>
        let b1 := b.bump 0x409
        if b.job.isSome ∨ b.power.dev.runsPackets = false ∨ b.power.clkWait = true ∨ b.waiting ≠ [] then
          .idle { b1 with waiting := b1.waiting ++ [p] }
        else .go b1

/-- Execute a packet row of a unit: `f` is the effect on the package, with the die as it stands at execution. The idle timer
of the session restarts at an executed packet other than NOP (R440). -/
def State.packet (s : State) (u : BnId) (op : Nat) (tag : Tag) (ws : List Word) (f : State → State) : State :=
  match (s.bn u).begin op tag ws with
  | .idle b => s.setBn u b
  | .go b => f (s.setBn u b)

/-- Whether a unit executes accesses now (R442). -/
def Bn.executes (b : Bn) : Bool := b.power.dev.runsPackets && !b.power.clkWait

/-- The die after an access, with its status recorded. -/
def Bn.noted (r : Bn × Status) : Bn := { r.1 with last := r.2 }

/-- An access of a unit that ends with a status. -/
def State.access (s : State) (u : BnId) (f : Bn → Bn × Status) : State :=
  if s.hasBn u = true ∧ (s.bn u).executes = true then s.setBn u (Bn.noted (f (s.bn u))) else s

end Sys2Proof.Machine
end

