-- ==== Sys2Proof/Machine/Comp.lean ====
section
/-! DEFINITION. The compositor array (R180-R208): registers and results in flight (R217-R220), the crossbar and the ring
(R185-R187), the memories and their codes (R201-R204), the settings words (R316), the system values (R238). -/

namespace Sys2Proof

/-- The signed immediate (R213). -/
def IFields.simm (f : IFields) : Int := f.imm.toInt

/-- A field of IMM. -/
def IFields.im (f : IFields) (hi lo : Nat) : Nat := Machine.bitsOf f.imm.toNat hi lo

end Sys2Proof

namespace Sys2Proof.Machine

/-- A compositor. -/
def Bn.comp (b : Bn) (n : Nat) : Comp := mget b.arr.comps n .zero

/-- Change the array. -/
def Bn.mapArr (b : Bn) (f : Arr → Arr) : Bn := { b with arr := f b.arr }

/-- Replace a compositor. -/
def Bn.setComp (b : Bn) (n : Nat) (c : Comp) : Bn := b.mapArr (fun a => { a with comps := mput a.comps n c .zero })

/-- A general register. -/
def Comp.rg (c : Comp) (r : Nat) : Word := mget c.g r 0

/-- Write a general register. -/
def Comp.setRg (c : Comp) (r : Nat) (v : Word) : Comp := { c with g := mput c.g r v 0 }

/-- A predicate. -/
def Comp.pr (c : Comp) (j : Nat) : Bool := c.p.toNat.testBit j

/-- Write a predicate. -/
def Comp.setPr (c : Comp) (j : Nat) (v : Bool) : Comp := { c with p := BitVec.ofNat 4 (setBits c.p.toNat j j (b2n v)) }

/-- An accumulator as a signed number. -/
def Comp.acc (c : Comp) (k : Bool) : Int := (if k then c.a1 else c.a0).toInt

/-- Write an accumulator. -/
def Comp.setAcc (c : Comp) (k : Bool) (v : BitVec 48) : Comp := if k then { c with a1 := v } else { c with a0 := v }

/-- A 48-bit pattern of an integer, modulo 2^48 (R222). -/
def wrap48 (v : Int) : BitVec 48 := BitVec.ofInt 48 v

/-- Clamp to 48 bits (R222). -/
def sat48 (v : Int) : BitVec 48 := BitVec.ofInt 48 (clampInt v 48)

/-- A register pair: gD the high word, gD+1 the low; D = 31 writes g31 alone (R234). -/
def Comp.setPair (c : Comp) (r : Nat) (v : Dbl) : Comp :=
  let c1 := c.setRg r (dhi v)
  if r = 31 then c1 else c1.setRg (r + 1) (dlo v)

/-- Whether a result in flight is a port access that completes whatever happens (R220). -/
def Dest.isPort : Dest → Bool
  | .xin _ _ => true
  | .rin _ _ _ _ => true
  | _ => false

/-- One result lands. -/
def Comp.land (c : Comp) : Dest → Comp
  | .reg r v => c.setRg r v
  | .pair r v => c.setPair r v
  | .pairValid r v j ok => (c.setPair r v).setPr j ok
  | .pred j v => c.setPr j v
  | .preds m vs => { c with p := BitVec.ofNat 4 ((c.p.toNat &&& (15 - m % 16)) ||| (vs &&& m)) }
  | .accSet k v => c.setAcc k v
  | .accAdd k v s => c.setAcc k (if s then sat48 (c.acc k + v) else wrap48 (c.acc k + v))
  | .xin _ v => { c with xin := v }
  | .rin true _ _ v => { c with rinUp := v }
  | .rin false _ _ v => { c with rinDn := v }

/-- The results due at the end of a global cycle or earlier land, in order (R217, R219). -/
def Comp.settle (c : Comp) (cycle : Nat) : Comp :=
  let now := c.flight.filter (fun f => f.due ≤ cycle)
  now.foldl (fun c f => c.land f.dst) { c with flight := c.flight.filter (fun f => cycle < f.due) }

/-- The instruction results due at the end of a global cycle land; doubles on their way to input registers stay under way, since
another sender of the cycle may still displace them (R191). -/
def Comp.settleResults (c : Comp) (cycle : Nat) : Comp :=
  let due (f : Flight) : Bool := decide (f.due ≤ cycle) && !f.dst.isPort
  (c.flight.filter due).foldl (fun c f => c.land f.dst) { c with flight := c.flight.filter (fun f => !due f) }

/-- Put a result in flight at its place. -/
def Comp.fly (c : Comp) (due rank : Nat) (dst : Dest) : Comp :=
  { c with flight := insertBy (fun a b => a.due < b.due || (a.due == b.due && a.rank < b.rank)) ⟨due, rank, dst⟩ c.flight }

/-- A stop of acquisition discards the results in flight; doubles on the crossbar and the ring complete (R220). -/
def Comp.halt (c : Comp) : Comp := { c with flight := c.flight.filter (fun f => f.dst.isPort) }

/-- The state that a start of acquisition clears (R184). -/
def Comp.clear (c : Comp) : Comp := { c with g := [], a0 := 0, a1 := 0, p := 0, xin := 0, rinUp := 0, rinDn := 0, flight := [] }

/-- Whether a compositor is in the use mask of the impressed forme (R250, R276). -/
def Bn.used (b : Bn) (n : Nat) : Bool := b.loader.live && wbit (b.rd (0x4043 + n / 20)) (n % 20)

/-- The period P of the live forme (R250). -/
def Bn.period (b : Bn) : Nat := 2 ^ fld (b.rd 0x4040) 11 10

/-- The 24-bit address of a codeword of the compositor memories (R201): kind 1 table, 2 instruction. -/
def memAddr (kind n : Nat) (bank : Bool) (i : Nat) : Nat := kind * 2 ^ 22 + n * 2 ^ 15 + b2n bank * 2 ^ 14 + i

/-- The key of a codeword's error pattern. -/
def memKey (kind : Nat) (bank : Bool) (i : Nat) : Nat := kind * 2 ^ 15 + b2n bank * 2 ^ 14 + i

/-- A settings word (R316): from the words of the ACQ block. -/
def settingsWord (rd : Nat → Word) (i : Nat) : Word :=
  if i < 5 then rd (0x240C + i) else if i = 5 then rd 0x2411 else 0

/-- A word of a live table bank; words 2040-2047 are the settings words (R316). -/
def Bn.tableWord (b : Bn) (n i : Nat) : Word :=
  let j := i % 2048
  if 2040 ≤ j then settingsWord b.rd (j - 2040) else mget (b.comp n).tblLive j 0

/-- The value of an ACQ word in the staged view (R316). -/
def Bn.stagedRd (b : Bn) (off : Nat) : Word :=
  match b.stage.words.find? (fun p => p.1 == off) with
  | some p => p.2
  | none => b.rd off

/-- A word of a staged table bank (R205, R316). -/
def Bn.stagedTableWord (b : Bn) (n i : Nat) : Word :=
  let j := i % 2048
  if 2040 ≤ j then settingsWord b.stagedRd (j - 2040) else mget (b.comp n).tblStaged j 0

/-- The 80 bits of a codeword of the live bank (R201): four table words or two instructions. -/
def Bn.memData (b : Bn) (kind n i : Nat) : Nat :=
  if kind = 1 then
    (List.range 4).foldl (fun a k => a * 2 ^ 20 + (b.tableWord n (4 * i + k)).toNat) 0
  else (mget (b.comp n).insLive (2 * i) 0).toNat * 2 ^ 40 + (mget (b.comp n).insLive (2 * i + 1) 0).toNat

/-- What a read of a codeword of a live bank finds, with the flags it leaves: MEM_CORR, or MEM_ERR and MEM_ERRS (R202); and
whether the value may be used. -/
def Bn.memRead (b : Bn) (kind n i : Nat) : Bn × Bool × Nat :=
  let c := b.comp n
  let bank := if kind = 1 then c.tblBank else c.insBank
  let f := mget c.flips (memKey kind bank i) 0
  if f = 0 then (b, true, b.memData kind n i)
  else
    let (o, v) := rsRead (memAddr kind n bank i) (b.memData kind n i) f
    match o with
    | .clean => (b, true, v)
    | .corrected => (b.bit (0x3D00 + n) 14 true, true, v)
    | _ => ((b.bit (0x3D00 + n) 15 true).bump 0x3C06, false, 0)

/-- A table read of an instruction: the live bank, 0 where it cannot be read (R202, R230). -/
def Bn.tread (b : Bn) (n i : Nat) : Bn × Word :=
  let j := i % 2048
  let (b1, ok, v) := b.memRead 1 n (j / 4)
  (b1, if ok then wof (v / 2 ^ (20 * (3 - j % 4))) else 0)

/-- The instruction that a compositor issues at a position; NOP where it cannot be read (R182, R202). -/
def Bn.iread (b : Bn) (n pos : Nat) : Bn × Dbl :=
  let (b1, ok, v) := b.memRead 2 n (pos / 2)
  (b1, if ok then dof (if pos % 2 = 0 then v / 2 ^ 40 else v) else 0)

/-- The scrub of one codeword of a physical bank (R203): a corrected codeword is rewritten, an uncorrectable one reported. -/
def Bn.scrubAt (b : Bn) (n kind : Nat) (bank : Bool) (j : Nat) : Bn :=
  let c := b.comp n
  let f := mget c.flips (memKey kind bank j) 0
  if f = 0 then b
  else
    match (rsRead (memAddr kind n bank j) 0 f).1 with
    | .clean => b
    | .corrected => (b.setComp n { c with flips := mdel c.flips (memKey kind bank j) }).bit (0x3D00 + n) 14 true
    | _ => (b.bit (0x3D00 + n) 15 true).bump 0x3C06

/-- The scrub of codeword `i` of the 1280 of a compositor (R203): the table codewords, then the instruction codewords, of each
physical bank. -/
def Bn.scrubCode (b : Bn) (n i : Nat) : Bn :=
  if i < 1024 then b.scrubAt n 1 (decide (512 ≤ i)) (i % 512) else b.scrubAt n 2 (decide (128 ≤ i - 1024)) ((i - 1024) % 128)

/-- The opcode word of an instruction (R212). -/
def insWord (op : Nat) (f : IFields) : Dbl :=
  BitVec.ofNat 6 op ++ f.psel ++ (if f.psense then 1#1 else 0#1) ++ f.d ++ f.a ++ f.b ++ f.imm

/-- Whether the issue condition holds (R215, R216). -/
def Comp.cond (c : Comp) (f : IFields) : Bool :=
  match f.psel.toNat, f.psense with
  | 0, false => true
  | 0, true => c.pr 0
  | k, false => c.pr k
  | k, true => !c.pr k

/-- What `issue` gives: nothing issues; it issues but its condition fails; it executes, with the compositor settled. -/
inductive Issue where
  | no (b : Bn)
  | fails (b : Bn)
  | go (b : Bn) (c : Comp)
deriving DecidableEq, Repr

/-- Issue the instruction of compositor `n` in cycle `c` of the current crossing (R182-R184): the unit is in RUN, the
compositor is used and on, the cycle is not the probe's, the issue is the next in order, and the live bank holds exactly this
instruction at the position of the crossing. `ok` says whether the stored opcode is the row's. -/
def Bn.issue (b : Bn) (n : CompId) (c : Cyc) (ok : Nat → Bool) (f : IFields) : Issue :=
  let pos := 128 * c.val + n.val + 1
  let at_ := 32 * (b.now % b.period) + c.val
  if b.power.dev ≠ .run ∨ b.power.clkWait = true ∨ b.used n.val = false ∨ b.domOn n.val = false ∨
      b.domOn (128 + n.val / 16) = false ∨ c.val = 31 ∨ pos ≤ b.arr.cursor then .no b
  else
    let (b1, w) := b.iread n.val at_
    if ok (bitsOf w.toNat 39 34) = false ∨ bitsOf w.toNat 33 0 ≠ bitsOf (insWord 0 f).toNat 33 0 then .no b
    else
      let b2 := { b1 with cyc := c.val, arr := { b1.arr with cursor := pos } }
      let cp := (b2.comp n.val).settle (32 * b2.xc + c.val - 1)
      let b3 := b2.setComp n.val cp
      if cp.cond f then .go b3 cp else .fails b3

/-- Execute one instruction of a unit: `body` gets the die and the settled compositor and answers the die and the results
with their latencies (R217). -/
def State.instr (s : State) (u : BnId) (n : CompId) (c : Cyc) (op : Nat) (f : IFields)
    (body : Bn → Comp → Bn × List (Nat × Dest)) : State :=
  match (s.bn u).issue n c (fun o => o == op) f with
  | .no _ => s
  | .fails b => s.setBn u b
  | .go b cp =>
    let (b1, rs) := body b cp
    let cyc := b1.cycle
    let c1 := rs.foldl (fun (k : Comp) r => k.fly (cyc + r.1 - 1) cyc r.2) (b1.comp n.val)
    let c2 := c1.settleResults cyc
    s.setBn u (b1.setComp n.val c2)

/-- Source A, signed. -/
def Comp.ga (c : Comp) (f : IFields) : Int := (c.rg f.a.toNat).toInt

/-- Source B, signed. -/
def Comp.gb (c : Comp) (f : IFields) : Int := (c.rg f.b.toNat).toInt

/-- Source A as bits. -/
def Comp.wa (c : Comp) (f : IFields) : Word := c.rg f.a.toNat

/-- Source B as bits. -/
def Comp.wb (c : Comp) (f : IFields) : Word := c.rg f.b.toNat

/-- A word from an integer, modulo 2^20 (R222). -/
def wrap20 (v : Int) : Word := BitVec.ofInt 20 v

/-- A word from an integer, clamped (R222). -/
def sat20 (v : Int) : Word := BitVec.ofInt 20 (clampInt v 20)

/-- shr of R222, with rounding to nearest when `rnd`. -/
def shrR (v : Int) (s : Nat) (rnd : Bool) : Int :=
  if rnd ∧ 1 ≤ s then (v + 2 ^ (s - 1)).fdiv (2 ^ s) else v.fdiv (2 ^ s)

/-- One result of latency 1 on register D. -/
def one (f : IFields) (v : Word) : List (Nat × Dest) := [(1, .reg f.d.toNat v)]

/-- The case of a compositor. -/
def caseOf (n : Nat) : Nat := n / 16

/-- A send on the crossbar (R185, R191): the double is in XIN from the next cycle; of two sends to one compositor the
lower-numbered sender's is written. -/
def Bn.xbar (b : Bn) (n target : Nat) (v : Dbl) : Bn :=
  if b.domOn target = false then b
  else b.setComp target ((b.comp target).fly b.cycle (128 - n) (.xin n v))

/-- The direction and hops of a ring send (R186). -/
def ringRoute (k j : Nat) : Bool × Nat :=
  let up := (j + 8 - k) % 8
  (decide (up ≤ 4), min up ((k + 8 - j) % 8))

/-- The number of the link out of a station. -/
def linkId (station : Nat) (up : Bool) : Nat := 2 * station + b2n up

/-- The links that a double takes, with their cycles: the first as an injection, the others in passing (R186). -/
def ringLinks (k h cyc : Nat) (up : Bool) (src : Nat) : List (Nat × Nat × Nat × Bool) :=
  (List.range h).map (fun i => (linkId (if up then (k + i) % 8 else (k + 8 * h - i) % 8) up, cyc + 2 * i, src, i == 0))

/-- A send on the ring (R186, R187, R191). A double that passes keeps the link. Of two injections onto one link in one cycle
the manual states no outcome: a free bit chooses (log entry 13). -/
def Bn.ring (b : Bn) (n target : Nat) (v : Dbl) (free : Bool) : Bn :=
  let k := caseOf n
  let j := caseOf target
  if k = j then b
  else
    let (up, h) := ringRoute k j
    let cyc := b.cycle
    let mine := b.arr.links.filter (fun l => l.1 == linkId k up && l.2.1 == cyc)
    let passing := mine.any (fun l => !l.2.2.2)
    let rival := mine.find? (fun l => l.2.2.2)
    let send (b : Bn) : Bn :=
      let b1 := b.mapArr (fun a => { a with links := a.links ++ ringLinks k h cyc up n })
      if b.domOn target = false then b1
      else b1.setComp target ((b1.comp target).fly (cyc + 2 * h - 1) (128 - h) (.rin up h n v))
    if passing then b
    else
      match rival with
      | none => send b
      | some r =>
        if free then b
        else
          let gone (f : Flight) : Bool :=
            match f.dst with
            | .rin up' h' src _ => up' == up && src == r.2.2.1 && f.due + 1 == cyc + 2 * h'
            | _ => false
          send (b.mapArr (fun a =>
            { a with
              links := a.links.filter (fun l => !(l.2.2.1 == r.2.2.1 && cyc ≤ l.2.1))
              comps := a.comps.map (fun p => (p.1, { p.2 with flight := p.2.flight.filter (fun f => !gone f) })) }))

/-- Claim the galley port of a case for this cycle; false when a lower-numbered compositor has it (R188, R191). -/
def Bn.claimG (b : Bn) (n : Nat) : Bn × Bool :=
  if mget b.arr.gport (caseOf n) 0 = b.cycle + 1 then (b, false)
  else (b.mapArr (fun a => { a with gport := mput a.gport (caseOf n) (b.cycle + 1) 0 }), true)

/-- Claim the justifier port of a case for this cycle (R188, R191). -/
def Bn.claimJ (b : Bn) (n : Nat) : Bn × Bool :=
  if mget b.arr.jport (caseOf n) 0 = b.cycle + 1 then (b, false)
  else (b.mapArr (fun a => { a with jport := mput a.jport (caseOf n) (b.cycle + 1) 0 }), true)

/-- A GGET of a queue (R290): the double and the valid indication. -/
def Bn.qGet (b : Bn) (q : Nat) : Bn × Dbl × Bool :=
  if b.reader q = true ∨ q = 34 then (b, 0, false)
  else
    match b.qRead q b.cycle with
    | (b1, .data d _) => (b1, d, true)
    | (b1, .flushed) => (b1, BitVec.allOnes 40, false)
    | (b1, .none) => (b1, 0, false)
    | (b1, .bad) => (b1, 0, false)

/-- The time quad of a count of tk (R150). -/
def quad (tk : Nat) : List Word :=
  let sec := tk / 1024000000000 % 2 ^ 32
  let ns := tk % 1024000000000 / 1024
  let fr := tk % 1024
  [wof (sec / 2 ^ 12), wof (sec % 2 ^ 12 * 2 ^ 8 + ns / 2 ^ 22), wof (ns / 4), wof (ns % 4 * 2 ^ 18 + fr * 2 ^ 8)]

/-- The words of an ANCHOR mark: w0[7:0] and w1, then e0-e7 (R173). -/
def Anc.words (a : Anc) : List Word :=
  let r := ofInt a.rate 24
  [wof (b2n a.unset * 2 ^ 7 + b2n a.sync * 2 ^ 6 + b2n a.src * 2 ^ 5 + a.cause), wof a.counter, wof (a.counter / 2 ^ 20),
    wof (bitsOf a.counter 47 40 * 2 ^ 12 + r / 2 ^ 20)] ++ quad (a.t / 2 ^ 20) ++ [wof a.t, wof r]

/-- The anchor due in the sheet of the crossing four before the current one (R172, R238). -/
def Bn.ancDue (b : Bn) : Option Anc := b.anchors.due.find? (fun a => (a.counter + 4) % 2 ^ 48 == b.now)

/-- Whether dense windows are allowed in the current crossing (R317). -/
def Bn.denseOk (b : Bn) : Bool := wbit (b.rd 0x2412) 0 && b.acq.level == 0

/-- The code of the variant in fields (R210, R238). -/
def Variant.code : Variant → Nat
  | .sln2 => 2
  | .sln4 => 4
  | .sln8 => 8

/-- The system values of R238, sampled at the boundary of the issue crossing. -/
def Bn.sysval (b : Bn) (v : Variant) (n k : Nat) : Word :=
  let x := b.now
  if k = 0 then wof x
  else if k = 1 then wof (x / 2 ^ 20)
  else if k = 2 then wof (bitsOf x 47 40)
  else if k = 3 then wof (v.code * 2 ^ 8 + n)
  else if k = 4 then
    match b.time.trigShown with
    | some a => wof (2 ^ 19 + a)
    | none => 0
  else if k = 5 then wof (b2n (b.acq.sXc == b.xc && b.acq.phase != .idle) + b.acq.level * 2 + b2n b.denseOk * 8)
  else if k = 6 then wof b.acq.totcut
  else if k = 7 then
    match b.ancDue with
    | some a => wof (2 ^ 19 + a.cause)
    | none => 0
  else if k ≤ 17 then ((b.ancDue.map Anc.words).getD []).getD (k - 8) 0
  else if k = 18 then b.acq.thermNow
  else if k = 19 then wof ((List.range 8).foldl (fun a q => a + b2n (b.gal.storePrev.contains q) * 2 ^ q) 0)
  else 0

end Sys2Proof.Machine
end

