-- ==== Sys2Proof/Machine/FvLink.lean ====
section
/-! DEFINITION. The ligature as the BN die sees it: the frames it sends (R129-R136), the frames it judges (R192), replies, epochs
and timeouts (R136, R142, R457), and what waits on FV dies: packets (R432, R433), the sweep (R489), SAFE after a takeover
(R413). -/

namespace Sys2Proof.Machine

/-- Whether a unit holds an unexpired lease (R395, R397; BN-A of an SLN-2 always once it is ACTIVE, R47). -/
def Bn.holds (b : Bn) : Bool := b.lease.role == .active && decide (b.now ≤ b.lease.exp) && !b.lease.released

/-- The throttle state that the holder applies in the crossing after the current one, which the ENF bit of this crossing's
frame carries (R533, R534). -/
def Bn.enf (b : Bn) : Bool :=
  b.therm.pend.foldl (fun x p => if p.1 ≤ b.now + 1 then p.2.1 == .enforced else x) (b.therm.st == .enforced)

/-- Whether an impress is announced in this crossing (R135, R451). -/
def Bn.announces (b : Bn) : Bool :=
  b.holds && b.stage.st == .armed && decide (b.now < b.stage.armedN) && decide (b.stage.armedN ≤ b.now + 32)

/-- The request that leaves in this crossing's frame toward a die (R136, R490): the oldest unsent one, with at most 8
outstanding; other requests wait behind a restore. -/
def Bn.nextReq (b : Bn) (d : Die) : Option BnReq :=
  let mine := b.reqs.filter (fun r => r.die == d)
  let out := (mine.filter (fun r => r.sent.isSome)).length
  let wait := mine.filter (fun r => r.sent.isNone)
  if 8 ≤ out ∨ (b.epochSeen.any (fun p => p.1 == d.val)) = false then none
  else
    match wait.find? (fun r => r.owner == .restore), wait.find? (fun r => r.owner != .sweep) with
    | some r, _ => some r
    | none, some r => if b.pantry.restore.any (fun p => p.1 == d) then none else some r
    | none, none => wait.head?

/-- The words D0-D7 of the frame that a unit sends to a die in its current crossing (R129). -/
def Bn.frameTo (b : Bn) (d : Die) (r : Option BnReq) : List Dbl :=
  let sv : Bool := b.holds && decide (960 ≤ b.now % 1024)
  let d0 := b.now % 4096 * 2 ^ 28 + b2n b.holds * 2 ^ 27 + b2n b.enf * 2 ^ 26 + b2n (b.holds && b.time.calpNow) * 2 ^ 25 +
    b2n sv * 2 ^ 24 + (b.rd 0x180B).toNat
  let d1 := if b.announces then 2 ^ 39 + b.stage.armedTag * 2 ^ 33 + b.stage.armedN % 4096 * 2 ^ 21 else 0
  let d2 :=
    match r with
    | some q => 2 ^ 39 + q.op * 2 ^ 37 + b.nextTag % 64 * 2 ^ 31 + mget b.epochSeen d.val 0 * 2 ^ 27 + q.off
    | none => 0
  let d3 := match r with
    | some q => q.data.toNat
    | none => 0
  let ws := [dof d0, dof d1, dof d2, dof d3, 0, 0, 0]
  ws ++ [dof (crc32 (dblBits ws) * 2 ^ 8)]

/-- A frame with bits turned. -/
def flipped (ws : List Dbl) (err : SMap Dbl) : List Dbl := ws.zipIdx.map (fun p => p.1 ^^^ mget err p.2 0)

/-- The requests after one of them left in this crossing's frame. -/
def Bn.sendReq (b : Bn) (r : Option BnReq) : Bn :=
  match r with
  | none => b
  | some q =>
    let q' : BnReq := { q with sent := some b.xc, tag := b.nextTag % 64, epoch := mget b.epochSeen q.die.val 0 }
    { b with reqs := replaceFirst (fun x => x == q) (fun _ => q') b.reqs, nextTag := (b.nextTag + 1) % 64 }

/-- A port set of a BN die. -/
def Bn.ligIn (b : Bn) (d : Die) : LigIn := b.lig[d]

/-- Replace a port set. -/
def Bn.setLig (b : Bn) (d : Die) (x : LigIn) : Bn := { b with lig := b.lig.set d x }

/-- BN_FRAME_RECEIVE: the frame of the unit's current crossing reaches the FV die's port (R129-R136). One frame goes per
crossing. -/
def State.bnFrame (s : State) (d : Die) (u : BnId) (err : SMap Dbl) : State :=
  let b := s.bn u
  if s.hasBn u = false ∨ b.domOn (159 + d.val) = false ∨ b.power.clkWait = true ∨ (b.ligIn d).sentAt = some b.xc then s
  else
    let r := b.nextReq d
    let ws := flipped (b.frameTo d r) err
    let b1 := (b.sendReq r).setLig d { b.ligIn d with sentAt := some b.xc }
    (s.setBn u b1).mapFv d (fun f => f.receive u ws)

/-- Store an FV word in the pantry when it is retained (R488, R489). -/
def Bn.keepFv (b : Bn) (d : Die) (off : Nat) (v : Word) : Bn :=
  match pantryFv d off with
  | some w => b.setPw w (keptFv off v)
  | none => b

/-- The FV dies that a WRITE or STAGE names: one, or every die present (R433). -/
def targetDies (dies : List Die) (target : Nat) : List Die := dies.filter (fun d => target == 7 || d.val == target)

/-- Ask for the next word of the packet in execution, or reply (R430-R433). `n` is the result of the last word. -/
def Bn.jobNext (b : Bn) (j : Job) : Bn :=
  match j with
  | .read tag d off left acc kept =>
    if left = 0 then { b with job := none }.reply tag 0x04 (if kept then .okRetained else .ok) acc
    else if 0x1FFFF < off then { b with job := none }.reply tag 0x04 .badAddress acc
    else { b with job := some j }.ask d 0 off 0 .job
  | .write tag st dies rest off vals done bad kept =>
    let op := if st then 0x06 else 0x05
    match bad with
    | some e => { b with job := none }.reply tag op e [wof done]
    | none =>
      match rest, vals with
      | d :: _, v :: _ => { b with job := some (.write tag st dies rest off vals done bad kept) }.ask d (if st then 2 else 1) off v .job
      | [], _ :: _ :: _ => { b with job := some j }
      | _, _ => { b with job := none }.reply tag op (if kept then .okRetained else .ok) [wof done]
  | .tapSet _ => { b with job := some j }
  | .wake _ _ => { b with job := some j }
  | .probe _ _ _ => { b with job := some j }

/-- A word of the packet in execution is answered by a die (R432, R433, R456): READ of a retained word in a sleeping block
takes the pantry copy. -/
def Bn.jobStep (b : Bn) (r : BnReq) (st : Status) (data : Word) : Bn :=
  match b.job with
  | none => b
  | some (.read tag d off left acc kept) =>
    match st, pantryFv d off with
    | .asleep, some w => b.jobNext (.read tag d (off + 1) (left - 1) (acc ++ [b.pw w]) true)
    | .ok, _ => b.jobNext (.read tag d (off + 1) (left - 1) (acc ++ [data]) kept)
    | .okRetained, _ => b.jobNext (.read tag d (off + 1) (left - 1) (acc ++ [data]) true)
    | _, _ => { b with job := none }.reply tag 0x04 st acc
  | some (.write tag stg dies rest off vals done bad kept) =>
    let bad1 := match bad with
      | some e => some e
      | none => if st.done then none else some st
    let b1 := if stg = false ∧ st.done = true then b.keepFv r.die off (vals.headD 0) else b
    let b2 := if stg = true ∧ st.done = true then
        let dies1 := if b1.stage.fvDies.any (fun p => p.1 == r.die) then b1.stage.fvDies
          else b1.stage.fvDies ++ [(r.die, mget b1.epochSeen r.die.val 0)]
        let ws := b1.stage.fvWords.filter (fun p => !(p.1 == r.die && p.2.1 == off)) ++ [(r.die, off, vals.headD 0)]
        { b1 with stage := { b1.stage with fvDies := dies1, fvWords := ws, st := .staging } }
      else b1
    match rest with
    | _ :: r2 :: rs =>
      { b2 with job := some (.write tag stg dies (r2 :: rs) off vals done bad1 kept) }.ask r2 (if stg then 2 else 1) off
        (vals.headD 0) .job
    | _ =>
      match bad1 with
      | some e => b2.jobNext (.write tag stg dies [] off vals done (some e) kept)
      | none =>
        match vals with
        | _ :: v2 :: vs =>
          if 0x1FFFF < off + 1 then b2.jobNext (.write tag stg dies [] (off + 1) (v2 :: vs) (done + 1) (some .badAddress) kept)
          else b2.jobNext (.write tag stg dies dies (off + 1) (v2 :: vs) (done + 1) none kept)
        | _ => b2.jobNext (.write tag stg dies [] off [] (done + 1) none kept)
  | some (.tapSet tag) => { b with job := none }.reply tag 0x12 st []
  | some (.wake _ _) => b
  | some (.probe _ _ _) => b

/-- In DOZE the holder keeps a die's BIAS_MODE in DOZE_BIAS and writes LOW_POWER (R480). -/
def Bn.lowerBias (b : Bn) (d : Die) (v : Word) : Bn :=
  if b.power.dev = .doze then
    (b.wr 0x1007 (setFld (b.rd 0x1007) (2 * d.val + 1) (2 * d.val) (fld v 1 0))).ask d 1 0x0808 1 .none
  else b

/-- A request completes with a status and a value: what its owner does next. -/
def Bn.complete (b : Bn) (r : BnReq) (st : Status) (data : Word) : Bn :=
  match r.owner with
  | .job => b.jobStep r st data
  | .sweep => if st = .ok ∧ ¬ (b.power.dev = .doze ∧ r.off = 0x0808) then b.keepFv r.die r.off data else b
  | .restore =>
    let l := b.pantry.restore.map (fun p => if p.1 == r.die then (p.1, p.2 - 1) else p)
    { b with pantry := { b.pantry with restore := l.filter (fun p => decide (0 < p.2)) } }
  | .safeRead =>
    if st = .ok ∧ wbit data 19 = true ∧ fld data 18 16 = 1 then b.ask r.die 1 0x0400 0x80000#20 .none else b
  | .dozeRead => if st = .ok then (b.keepFv r.die r.off data).lowerBias r.die data else b
  | .none => b

/-- Requests toward a die whose EPOCH field differs from the header's end with EPOCH (R142, R457). -/
def Bn.endEpoch (b : Bn) (d : Die) (epoch : Nat) : Bn :=
  let gone := b.reqs.filter (fun r => r.die == d && r.sent.isSome && r.epoch != epoch)
  gone.foldl (fun b r => b.complete r .epoch 0)
    { b with reqs := b.reqs.filter (fun r => !(r.die == d && r.sent.isSome && r.epoch != epoch)) }

/-- A reply in beat 30 (R126, R136): it ends the request with its tag. -/
def Bn.takeReply (b : Bn) (d : Die) (epoch w : Nat) : Bn :=
  let ok (r : BnReq) : Bool := r.die == d && r.sent.isSome && r.tag == bitsOf w 36 31 && r.epoch == epoch
  if bitsOf w 39 38 = 1 ∧ bitsOf w 37 37 = b.unit.bit then
    match b.reqs.find? ok with
    | some r => { b with reqs := removeFirst ok b.reqs }.complete r (Status.ofCode (bitsOf w 30 23)) (wof w)
    | none => b
  else b

/-- ARRIVALd records the window position of a last beat (R192, R210). -/
def Bn.arrived_ (b : Bn) (d : Die) (p : Nat) : Bn :=
  let off := 0x3C13 + 4 * d.val
  let w := b.rd off
  let e := if wbit w 15 then min (fld w 14 10) p else p
  let l := if wbit w 15 then max (fld w 9 5) p else p
  b.wrN off (2 ^ 15 + e * 2 ^ 10 + l * 2 ^ 5 + p)

/-- The frames of a die that a port set has not judged yet, oldest first: of the crossing before and of this crossing. -/
def Fv.unjudged (f : Fv) (after : Option Nat) : List FvFrame :=
  ([f.prevFrame, f.frame.map f.patched].filterMap id).filter (fun fr =>
    match after with
    | some k => decide (k < fr.xc)
    | none => true)

/-- The frame that completed in the window of crossing x (modulo 4096): the unjudged one of that crossing, else the oldest
unjudged one (R192; log 21). -/
def Fv.completed (f : Fv) (x : Nat) (after : Option Nat) : Option FvFrame :=
  match (f.unjudged after).find? (fun fr => bitsOf (fr.sealed.getD 0 0).toNat 39 28 == x) with
  | some fr => some fr
  | none => (f.unjudged after).head?

/-- The last frame a port set is done with when no frame completed in a window: the frame of that window's crossing, if the die
sent one and it was lost, is never judged later (R192; log 21). -/
def Fv.lostFrame (f : Fv) (x : Nat) (after : Option Nat) : Option Nat :=
  match (f.unjudged after).find? (fun fr => bitsOf (fr.sealed.getD 0 0).toNat 39 28 == x) with
  | some fr => some fr.xc
  | none => after

/-- FV_MISS: a VALID frame of the crossing of the last impress without IMPRESSED (R128, R451). -/
def Bn.noteMiss (b : Bn) (d : Die) (status : Nat) : Bn :=
  match b.stage.missFrom with
  | some n => if b.time.prev = n ∧ status.testBit 2 = false then b.wr 0x080B (b.rd 0x080B ||| wof (2 ^ (14 + d.val))) else b
  | none => b

/-- What a VALID frame brings (R126, R136, R142): its beats, the die's epoch, the end of requests of another epoch, a reply, a phase word. -/
def Bn.validFrame (b : Bn) (d : Die) (g : LigIn) (beats : List Dbl) : Bn :=
  let w (i : Nat) : Nat := (beats.getD i 0).toNat
  let ep := bitsOf (w 0) 27 24
  let ovf := (w 0).testBit 3
  let ph := if ovf = false ∧ bitsOf (w 30) 39 38 = 2 ∧ (w 30).testBit 35 = true then
      mput g.phase (bitsOf (w 30) 37 36) (wof (bitsOf (w 30) 34 19)) 0 else g.phase
  let b1 := { b.setLig d { g with verdict := 0, beats := beats, phase := ph } with epochSeen := mput b.epochSeen d.val ep 16 }
  let b2 := b1.endEpoch d ep
  (if ovf then b2 else b2.takeReply d ep (w 30)).noteMiss d (w 31)

/-- FRAME_CHECK: the window of the crossing before the current one is judged (R192), with what the frame brings: epoch,
reply, phase word (R126, R136, R142). -/
def State.frameJudge (s : State) (u : BnId) (d : Die) (pos : Option (Fin 32)) (others : Nat) (err : SMap Dbl) : State :=
  let b := s.bn u
  let g := b.ligIn d
  if s.hasBn u = false ∨ s.variant.hasFv d = false ∨ b.domOn (159 + d.val) = false ∨ b.power.clkWait = true ∨ g.judged = some b.xc then s
  else
    let b0 := b.bumpN (0x3C11 + 4 * d.val) others 20
    match pos, (s.fv d).completed (b.time.prev % 4096) g.lastIdx with
    | some p, some fr =>
      let beats := flipped fr.sealed err
      let w (i : Nat) : Nat := (beats.getD i 0).toNat
      let crcOk := crc32 (dblBits (beats.take 31) ++ bitsMsb (w 31) 8) == bitsOf (w 31) 39 8
      let b1 := b0.arrived_ d p.val
      let g1 := { g with judged := some b.xc, lastIdx := some fr.xc }
      if crcOk = false then s.setBn u ((b1.bump (0x3C10 + 4 * d.val)).setLig d { g1 with verdict := 1, beats := [] })
      else if bitsOf (w 0) 39 28 ≠ b.time.prev % 4096 then
        s.setBn u ((b1.bump (0x3C11 + 4 * d.val)).setLig d { g1 with verdict := 2, beats := [] })
      else
        s.setBn u (b1.validFrame d g1 beats)
    | _, _ =>
      let lost := (s.fv d).lostFrame (b.time.prev % 4096) g.lastIdx
      s.setBn u ((b0.bump (0x3C12 + 4 * d.val)).setLig d { g with judged := some b.xc, lastIdx := lost, verdict := 3, beats := [] })

/-- A request toward a die is 64 crossings old (R136): since it left, or since it was made where it cannot leave. -/
def Bn.stale (b : Bn) (d : Die) (r : BnReq) : Bool :=
  r.die == d && (match r.sent with
    | some t => decide (t + 64 ≤ b.xc)
    | none => (!(b.epochSeen.any (fun p => p.1 == d.val)) || !b.domOn (159 + d.val)) && decide (r.made + 64 ≤ b.xc))

/-- REQUEST_TIMEOUT: the oldest request toward a die that is 64 crossings old ends with TIMEOUT (R136). -/
def Bn.timeoutReq (b : Bn) (d : Die) : Bn :=
  match b.reqs.find? (b.stale d) with
  | some r => { b with reqs := removeFirst (b.stale d) b.reqs }.complete r .timeout 0
  | none => b

/-- Where and when a beat of a die's frame is delivered (R194, R195): case, index, cycle. -/
def arrivalOf (v : Variant) (d beat : Nat) : Option (Nat × Nat × Nat) :=
  if beat = 0 then some (d, 15, 24)
  else if beat = 30 then some (d, 14, 24)
  else if beat = 28 then some (d, 13, 25)
  else if beat = 29 then some (d, 12, 25)
  else if 1 ≤ beat ∧ beat ≤ 24 then
    let g := 24 * d + beat - 1
    match v with
    | .sln2 => some (0, g % 16, 12 + g / 2)
    | .sln4 => some (g / 16, g % 16, 12 + g % 16 / 2)
    | .sln8 => some (g % 8, g / 8 % 16, 12 + g / 8 / 2)
  else none

/-- The kind field of a delivery (R193). -/
def kindOf (beat : Nat) : Nat := if beat = 0 then 1 else if beat = 28 ∨ beat = 29 then 2 else if beat = 30 then 3 else 0

/-- The age of a slot from the age map (R120). -/
def ageOf (beats : List Dbl) (slot : Nat) : Nat :=
  bitsOf (beats.getD (25 + slot / 8) 0).toNat (39 - 5 * (slot % 8)) (35 - 5 * (slot % 8))

/-- Whether a crossing lies in the run (R312). -/
def Acq.inRun (a : Acq) (c : Nat) : Bool :=
  decide (a.s ≤ c) && (a.phase == .run || decide (c < a.e))

/-- The three words of a delivery (R193), with the filter of R312. -/
def Bn.deliveryWords (b : Bn) (d beat : Nat) (g : LigIn) : Word × Word × Word :=
  let w := if g.verdict = 0 then g.beats.getD beat 0 else 0
  let slot : Bool := decide (1 ≤ beat) && decide (beat ≤ 24)
  let age := if slot = true ∧ g.verdict = 0 then ageOf g.beats (beat - 1) else 0
  let band := w.toNat % 4
  let out : Bool := slot && (band == 1 || band == 2) && !b.acq.inRun (b.now - 1 - age)
  let desc := d * 2 ^ 17 + (if out then 0 else age) * 2 ^ 12 + kindOf beat * 2 ^ 10 + beat * 2 ^ 5 + g.verdict * 2 ^ 3
  if out then (0, 0, wof desc) else (dhi w, dlo w, wof desc)

/-- LIGATURE_DELIVERY: a beat of the frame presented in this crossing reaches its compositor (R193-R196, R312), in RUN. -/
def State.deliver (s : State) (u : BnId) (d : Die) (beat : Nat) : State :=
  let b := s.bn u
  let g := b.ligIn d
  if s.hasBn u = false ∨ s.variant.hasFv d = false ∨ b.power.dev ≠ .run ∨ b.power.clkWait = true ∨ g.judged ≠ some b.xc ∨
      b.domOn (159 + d.val) = false then s
  else
    match arrivalOf s.variant d.val beat with
    | none => s
    | some (k, i, cyc) =>
      let n := 16 * k + i
      if b.domOn n = false ∨ b.domOn (128 + k) = false then s
      else
        let b1 := { b with cyc := max b.cyc cyc }
        let (w0, w1, w2) := b1.deliveryWords d.val beat g
        let c := (b1.comp n).settle (32 * b1.xc + cyc)
        s.setBn u (b1.setComp n (((c.setRg 29 w0).setRg 30 w1).setRg 31 w2))

end Sys2Proof.Machine
end

