-- ==== Sys2Proof/Machine/Array.lean ====
section
/-! DEFINITION. The array beside its instructions: the probe slot (R198-R200), the scrub and the copies of the memories
(R203, R204, R580), the power of cases and compositors (R206, R207), the table CRCs (R448). -/

namespace Sys2Proof.Machine

/-- Whether the compositors run their probe slot (R198, R200). -/
def Bn.probing (b : Bn) : Bool := (b.power.dev == .ready || b.power.dev == .run) && !b.power.clkWait

/-- A probe step that a compositor's datapath answers with these bits turned (R198, R199). -/
def Bn.probeStep (b : Bn) (n : Nat) (dev : BitVec 40) : Bn :=
  if b.probing = false ∨ b.domOn n = false ∨ dev = 0 ∨ b.arr.probeBad.contains (b.xc, n) then b
  else
    let w := b.rd (0x3D00 + n)
    let w1 := setFld (setFld w 16 16 1) 7 0 (min (fld w 7 0 + 1) 255)
    let b1 := ((b.wr (0x3D00 + n) w1).bump 0x3C04).wrN 0x3C05 (2 ^ 19 + n * 2 ^ 12 + b.now % 16 * 2 ^ 8 + b.now % 256)
    b1.mapArr (fun a => { a with probeBad := a.probeBad ++ [(b.xc, n)] })

/-- PROBE_STEP (R198, R199). -/
def execProbeStep (u : BnId) (n : CompId) (dev : BitVec 40) (s : State) : Host.Outcome State Fault Refusal :=
  .next (if s.hasBn u then s.mapBn u (fun b => b.probeStep n.val dev) else s)

/-- The compositors that count in a probe round (R200). -/
def Bn.probed (b : Bn) : List Nat :=
  (List.range 128).filter (fun n => b.domOn n && (b.used n || !b.loader.live))

/-- GAVE_UP is released after enough clean rounds without a store fault (R398). -/
def Bn.releaseGaveUp (b : Bn) : Bn :=
  if b.lease.gaveUp = true ∧ (b.rd 0x2004).toNat ≤ (b.rd 0x3C03).toNat ∧ wbit (b.rd 0x2C01) 17 = false then
    { b with lease := { b.lease with gaveUp := false } }
  else b

/-- The probe round of the crossing two before the current one is recorded (R200, R398). -/
def Bn.probeRound (b : Bn) : Bn :=
  let x := b.xc - 2
  let seen := match b.arr.probeRec with
    | some y => decide (x ≤ y)
    | none => false
  if b.probing = false ∨ b.xc < 2 ∨ seen = true ∨ b.probed = [] then b
  else
    let ok := !(b.arr.probeBad.any (fun p => p.1 == x && b.probed.contains p.2))
    let b1 := if ok then b.bump 0x3C03 else b.wr 0x3C03 0
    let b2 := b1.mapArr (fun a =>
      { a with probeRec := some x, probeOk := ok, probeBad := a.probeBad.filter (fun p => decide (x < p.1)) })
    b2.releaseGaveUp

/-- The probe self-test ends: PASS when PROBE_FAILS has not changed (R444). -/
def Bn.probeTestEnd (b : Bn) : Bn :=
  match b.job with
  | some (.probe tag fails until_) =>
    if until_ ≤ b.xc then { b with job := none }.reply tag 0x1B .ok [wof (b2n ((b.rd 0x3C04).toNat == fails) * 2 ^ 19)] else b
  | _ => b

/-- PROBE_ROUND (R200). -/
def execProbeRound (u : BnId) (s : State) : Host.Outcome State Fault Refusal :=
  .next (if s.hasBn u then s.mapBn u (fun b => b.probeRound.probeTestEnd) else s)

/-- COMPOSITOR_SCRUB: one codeword of every powered compositor (R203). -/
def execCompositorScrub (u : BnId) (s : State) : Host.Outcome State Fault Refusal :=
  .next (if s.hasBn u = true ∧ (s.bn u).probing = true then
    s.mapBn u (fun b =>
      let p := b.arr.scrubPos
      (((List.range 128).filter b.domOn).foldl (fun b n => b.scrubCode n p) b).mapArr
        (fun a => { a with scrubPos := (p + 1) % 1280 }))
  else s)

/-- The second port copies the live banks that were exchanged into the staged banks (R204, R580). -/
def Comp.copyBanks (c : Comp) : Comp :=
  let c1 := if c.copyTbl.isSome then { c with tblStaged := c.tblLive, copyTbl := none } else c
  if c1.copyIns.isSome then { c1 with insStaged := c1.insLive, copyIns := none } else c1

/-- BANK_COPY (R204). -/
def execBankCopy (u : BnId) (n : CompId) (s : State) : Host.Outcome State Fault Refusal :=
  .next (if s.hasBn u = true ∧ (s.bn u).domOn n.val = true then
    s.mapBn u (fun b => b.setComp n.val (b.comp n.val).copyBanks)
  else s)

/-- The CRC of 2048 table words (R448). -/
def tableCrc (w : Nat → Word) : Nat := crc32Words ((List.range 2048).map w)

/-- The table CRCs held, replaced. -/
def Bn.setTables (b : Bn) (t : SMap Nat) : Bn := { b with stage := { b.stage with tables := t } }

/-- The second port recomputes the TBL_CRC of a staged bank and of the live one (R203, R448): keys n and 128 + n. -/
def Bn.tblCrcs (b : Bn) (n : Nat) : Bn :=
  if b.domOn n then
    b.setTables (mput (mput b.stage.tables n (tableCrc (b.stagedTableWord n)) 0) (128 + n) (tableCrc (b.tableWord n)) 0)
  else b.setTables (mdel (mdel b.stage.tables n) (128 + n))

/-- TBL_CRC (R448). -/
def execTblCrc (u : BnId) (n : CompId) (s : State) : Host.Outcome State Fault Refusal :=
  .next (if s.hasBn u then s.mapBn u (fun b => b.tblCrcs n.val) else s)

/-- A compositor or case loses its supply: its memories and registers go (R206, R472). -/
def Bn.compOff (b : Bn) (n : Nat) : Bn := if n < 128 then (b.domOff n).setComp n .zero else b.domOff n

/-- The domains of a use mask in the words given: the compositors, and their cases (R206, R207). -/
def maskDoms (w : Nat → Word) : List Nat :=
  let cs := (List.range 128).filter (fun n => wbit (w (n / 20)) (n % 20))
  ((List.range 8).filter (fun k => cs.any (fun n => n / 16 == k))).map (128 + ·) ++ cs

/-- The domains of the live forme. -/
def Bn.liveDoms (b : Bn) : List Nat := if b.loader.live then maskDoms (fun i => b.rd (0x4043 + i)) else []

/-- Switch on the domains of a list that are off; answers those switched on (R207, R253). -/
def Bn.domsUp (b : Bn) (ds : List Nat) : Bn × List Nat :=
  let new := ds.filter (fun n => (b.dom n).power == .off)
  (new.foldl Bn.domUp b, new)

/-- Switch off the domains of a list that the live forme does not use (R207, R253). -/
def Bn.domsDown (b : Bn) (ds : List Nat) : Bn :=
  let keep := b.liveDoms
  (ds.filter (fun n => !keep.contains n)).foldl Bn.compOff b

/-- The staged banks of a discarded load (R254). -/
def Comp.dropLoad (c : Comp) : Comp :=
  { c with tblStaged := c.tblLive, insStaged := c.insLive, tblDirty := false, copyTbl := none, copyIns := none }

/-- The changes held in a staged table bank are dropped: the second port copies the live bank (R580). -/
def Comp.dropStaged (c : Comp) (until_ : Nat) : Comp :=
  if c.tblDirty then { c with tblDirty := false, copyTbl := some until_ } else c

end Sys2Proof.Machine
end

