-- ==== Sys2Proof/Machine/Loader.lean ====
section
/-! DEFINITION. Loading a forme (R247-R255), checking it at PROOF (R256), making it live (R260-R262). -/

namespace Sys2Proof.Machine

/-- Change the loader. -/
def Bn.mapLoader (b : Bn) (f : Loader → Loader) : Bn := { b with loader := f b.loader }

/-- Word i of the image loaded so far. -/
def Loader.word (l : Loader) (i : Nat) : Word := l.img.getD i 0

/-- LENGTH of the image, once its word has arrived (R250). -/
def Loader.length? (l : Loader) : Option Nat := (l.img[2]?).map (·.toNat)

/-- CLASS of the image: 0 FULL, 1 TABLES (R250). -/
def Loader.cls (l : Loader) : Nat := fld (l.word 0) 9 8

/-- P of the image (R250). -/
def Loader.period (l : Loader) : Nat := 2 ^ fld (l.word 0) 11 10

/-- Instruction words of a section (R251). -/
def Loader.insWords (l : Loader) : Nat := if l.cls = 0 then 64 * l.period else 0

/-- The use mask of the image, ascending (R250). -/
def Loader.mask (l : Loader) : List Nat := (List.range 128).filter (fun n => wbit (l.word (3 + n / 20)) (n % 20))

/-- CRC_CALC: over the words w0 to w(LENGTH-1) loaded so far, w30 and w31 taken as 0 (R249). -/
def Loader.crcCalc (l : Loader) : Nat :=
  if l.img.isEmpty then 0
  else crc32Words ((l.img.take (l.length?.getD l.img.length)).zipIdx.map (fun p => if p.2 = 30 ∨ p.2 = 31 then 0 else p.1))

/-- The 13 words of a digest (R248). -/
def sealWords (d : Nat) : List Word := wof (d / 2 ^ 240) :: (List.range 12).map (fun i => wof (d / 2 ^ (20 * (11 - i))))

/-- SEAL_CALC: the digest of the words w0 to w(LENGTH-1) loaded so far (R248). -/
def Loader.sealCalc (l : Loader) : List Word :=
  if l.img.isEmpty then List.replicate 13 0
  else
    let ws := l.img.take (l.length?.getD l.img.length)
    sealWords (sha256 (ws.foldl (fun a w => a * 2 ^ 24 + w.toNat) 0) (24 * ws.length))

/-- Put one word of section content into the staged banks (R251, R252, R316); the memories of a compositor that is not on
take nothing (R253). A copy by the second port that is still due ends first, so it never wipes a word placed. -/
def Bn.placeContent (b : Bn) (n j : Nat) (w : Word) : Bn :=
  let iw := b.loader.insWords
  let c := (b.comp n).copyBanks
  if b.domOn n = false then b
  else if j < iw then
    let old := mget c.insStaged (j / 2) 0
    let v := if j % 2 = 0 then dbl w (dlo old) else dbl (dhi old) w
    b.setComp n { c with insStaged := mput c.insStaged (j / 2) v 0 }
  else
    let i := j - iw
    if i < 2040 then b.setComp n { c with tblStaged := mput c.tblStaged i w 0 } else b

/-- A word of the sections (R251, R253): s0, s1, or content. -/
def Bn.placeSection (b : Bn) (w : Word) : Bn :=
  let l := b.loader
  let done (b : Bn) (n : Nat) : Bn := b.mapLoader (fun l => { l with sect := none, sects := l.sects ++ [n] })
  match l.sect with
  | none =>
    let n := fld w 19 13
    let ok := l.mask.contains n && l.sects.all (fun m => decide (m < n))
    b.mapLoader (fun l => { l with sect := some (n, ok, 1, 0), sectErr := l.sectErr || !ok })
  | some (n, ok, pos, tl) =>
    if pos = 1 then
      let t := fld w 11 0
      let b1 := if ok = true ∧ b.domOn n = true ∧ l.cls = 0 then b.setComp n { (b.comp n).copyBanks with tblStaged := [] } else b
      if l.insWords + t = 0 then done b1 n else b1.mapLoader (fun l => { l with sect := some (n, ok, 2, t) })
    else
      let b1 := if ok then b.placeContent n (pos - 2) w else b
      if pos + 1 = 2 + l.insWords + tl then done b1 n else b1.mapLoader (fun l => { l with sect := some (n, ok, pos + 1, tl) })

/-- Accept one image word at LOAD_NEXT (R252, R253). -/
def Bn.acceptWord (b : Bn) (w : Word) : Bn :=
  let i := b.loader.img.length
  let b1 := b.mapLoader (fun l => { l with img := l.img ++ [w], st := .loading })
  let b2 := if i < 32 then b1.wr (0x4020 + i) w else b1
  let b3 :=
    if i = 9 ∧ b2.loader.cls = 0 then
      let r := b2.domsUp (maskDoms (fun k => b2.loader.word (3 + k)))
      r.1.mapLoader (fun l => { l with loadDoms := l.loadDoms ++ r.2 })
    else b2
  let len := b3.loader.length?.getD 0
  let b4 := if 32 ≤ i ∧ i < len then b3.placeSection w else b3
  if b4.loader.length?.isSome = true ∧ i + 1 = len + 13 then b4.mapLoader (fun l => { l with st := .loaded }) else b4

/-- The staged banks of a load are discarded: they hold the live banks again, at once and with no changes; the domains that the
load switched on and the live forme does not use go off (R253, R254; log 20). -/
def Bn.discardLoad (b : Bn) : Bn :=
  let ns := b.loader.sects ++ (match b.loader.sect with
    | some (n, true, _, _) => [n]
    | _ => [])
  let b1 := ns.foldl (fun b n => b.setComp n (b.comp n).dropLoad) b
  let b2 := b1.domsDown (b1.loader.loadDoms ++ b1.loader.proofDoms)
  (b2.clearWords ((List.range 32).map (0x4020 + ·))).mapLoader (fun l =>
    { Loader.empty with live := l.live, goRefused := l.goRefused, crcOk := l.crcOk, sealOk := l.sealOk, lastRule := l.lastRule })

/-- LENGTH as it stands once these words have been taken at LOAD_NEXT. -/
def Loader.lengthAfter (l : Loader) (ws : List Word) : Option Nat := ((l.img ++ ws.take 3)[2]?).map (·.toNat)

/-- Whether a word is taken at all (R252): within LENGTH + 12. -/
def Loader.fits (l : Loader) (ws : List Word) : Bool :=
  match l.lengthAfter ws with
  | some n => decide (l.img.length + ws.length ≤ n + 13)
  | none => true

/-- Words offered at an image offset (R252, R254): the status and the die after it. -/
def Bn.loadWords (b : Bn) (off : Nat) (ws : List Word) : Bn × Status :=
  if b.power.dev = .minimal then (b, .denied)
  else if off = 0 ∧ (b.loader.st = .proved ∨ b.loader.st = .armed) then (b, .busy)
  else
    let b1 := if off = 0 ∧ b.loader.img ≠ [] then b.discardLoad else b
    if off ≠ b1.loader.img.length then (b, .range)
    else if b1.loader.fits ws = false then (b, .range)
    else (ws.foldl Bn.acceptWord b1, .ok)

/-- One word appended at LOAD_NEXT (R252, R254). -/
def Bn.loadOne (b : Bn) (w : Word) : Bn × Status := b.loadWords b.loader.img.length [w]

/-- LOAD_RESET (R253, R254, R276). -/
def Bn.loadReset (b : Bn) : Bn × Status :=
  if b.power.dev = .minimal then (b, .denied)
  else if b.loader.st = .proved ∨ b.loader.st = .armed then (b, .busy)
  else (b.discardLoad, .ok)

/-- The header CRC of the staged image (R249). -/
def Loader.hdrCrc (l : Loader) : Nat := (dbl (l.word 30) (l.word 31)).toNat % 2 ^ 32

/-- Whether CRC and seal match (R255, R256). -/
def Loader.crcMatch (l : Loader) : Bool := l.crcCalc == l.hdrCrc

/-- Whether the seal matches (R248). -/
def Loader.sealMatch (l : Loader) : Bool := (l.img.drop (l.length?.getD 0)).take 13 == l.sealCalc

/-- FORME_VERIFY's effect (R255). -/
def Bn.verify (b : Bn) : Bn × Status :=
  match b.loader.st with
  | .empty => (b, .nothingStaged)
  | .loading => (b, .busy)
  | _ => (b.mapLoader (fun l => { l with crcOk := l.crcMatch, sealOk := l.sealMatch }), .ok)

/-- The sections of an image: compositor, CYCLES, TBL_LEN; `none` when the words do not divide into sections (R251, R256). -/
def sectionsOf (iw : Nat) : Nat → List Word → Option (List (Nat × Nat × Nat))
  | 0, ws => if ws.isEmpty then some [] else none
  | k + 1, ws =>
    match ws with
    | [] => some []
    | s0 :: s1 :: t =>
      let len := iw + fld s1 11 0
      if t.length < len then none
      else (sectionsOf iw k (t.drop len)).map (fun r => (fld s0 19 13, fld s1 19 12, fld s1 11 0) :: r)
    | _ => none

/-- The sections of the staged image. -/
def Loader.sections (l : Loader) : Option (List (Nat × Nat × Nat)) :=
  sectionsOf l.insWords 129 ((l.img.take (l.length?.getD 0)).drop 32)

/-- The reserved header fields (R250). -/
def Loader.reservedZero (l : Loader) : Bool :=
  fld (l.word 0) 7 0 == 0 && fld (l.word 1) 19 16 == 0 && fld (l.word 9) 19 8 == 0 && fld (l.word 10) 1 0 == 0 &&
  fld (l.word 11) 5 0 == 0 && fld (l.word 12) 19 12 == 0 && fld (l.word 16) 19 4 == 0 &&
  (List.range 11).all (fun i => l.word (19 + i) == 0)

/-- The FORM rules that fail (R256), on a loaded image; the domains of its use mask have been switched on (R207). -/
def Bn.formeFails (b : Bn) (v : Variant) : List Nat :=
  let l := b.loader
  let ss := l.sections
  let cyc := (ss.getD []).map (·.2.1)
  let tbl := (ss.getD []).map (·.2.2)
  let rule (code : Nat) (ok : Bool) : List Nat := if ok then [] else [code]
  let vcode := fld (l.word 0) 15 12
  let lat := fld (l.word 10) 19 14
  rule 0x40 (fld (l.word 0) 19 16 == 1 && decide (l.cls < 2) && l.reservedZero) ++
  rule 0x41 (vcode == v.code && (idx 6).all (fun d => v.hasFv d || !wbit (l.word 11) (14 + d.val))) ++
  rule 0x42 (l.st != .loading && !l.sectErr && (match ss with
    | some r => r.map (·.1) == l.mask
    | none => false)) ++
  rule 0x43 l.crcMatch ++
  rule 0x44 l.sealMatch ++
  rule 0x45 (fld (l.word 1) 15 0 == 1) ++
  rule 0x46 ((maskDoms (fun k => l.word (3 + k))).all b.domOn &&
    (idx 6).all (fun d => !wbit (l.word 11) (14 + d.val) || b.domOn (159 + d.val))) ++
  rule 0x47 (decide (fld (l.word 10) 13 10 + 2 ≤ lat) && decide (lat ≤ fld (l.word 10) 9 2)) ++
  rule 0x48 (cyc.all (fun c => decide (c ≤ 31 * l.period)) && cyc.foldl max 0 == fld (l.word 11) 13 6) ++
  rule 0x49 (tbl.all (fun t => decide (t ≤ 2048)) && tbl.foldl max 0 == fld (l.word 12) 11 0) ++
  rule 0x4A ((List.range 64).all (fun q =>
    !wbit (l.word (13 + q / 20)) (q % 20) || fld (b.stagedRd (qCfg q)) 17 0 != 0)) ++
  rule 0x4B (l.cls != 1 || (b.loader.live && l.word 17 == b.rd 0x4051 && l.mask.all b.used))

/-- The exchange of a compositor's table banks (R204, R580). -/
def Comp.swapTables (c : Comp) (until_ : Nat) : Comp :=
  { c with tblLive := c.tblStaged, tblStaged := c.tblLive, tblBank := !c.tblBank, tblDirty := false, copyTbl := some until_ }

/-- The exchange of a compositor's instruction banks (R204, R260). -/
def Comp.swapIns (c : Comp) (until_ : Nat) : Comp :=
  { c with insLive := c.insStaged, insStaged := c.insLive, insBank := !c.insBank, copyIns := some until_ }

/-- The compositors whose staged table bank holds changes (R580). -/
def Bn.dirtyComps (b : Bn) : List Nat := (b.arr.comps.filter (fun p => p.2.tblDirty)).map (·.1)

/-- The impress of the forme or the tables included, and of every changed table bank (R260, R262, R580). -/
def Bn.impressForme (b : Bn) (withForme : Bool) : Bn :=
  let l := b.loader
  let until_ := b.xc + 16
  let full : Bool := withForme && l.cls == 0
  let tabs := (if withForme then l.mask else []) ++ b.dirtyComps.filter (fun n => !(withForme && l.mask.contains n))
  let b1 := tabs.foldl (fun b n => b.setComp n ((b.comp n).swapTables until_)) b
  let b2 := if full then l.mask.foldl (fun b n => b.setComp n ((b.comp n).swapIns until_)) b1 else b1
  if withForme = false then b2
  else
    let off := if full then (b2.liveDoms ++ l.loadDoms ++ l.proofDoms).filter (fun n => !(maskDoms (fun k => l.word (3 + k))).contains n) else []
    let b3 := off.foldl Bn.compOff b2
    let b4 := if full then (List.range 32).foldl (fun b i => b.wr (0x4040 + i) (b.rd (0x4020 + i))) b3 else b3
    (b4.clearWords ((List.range 32).map (0x4020 + ·))).mapLoader (fun x =>
      { Loader.empty with
        live := x.live || full, goRefused := x.goRefused, crcOk := x.crcOk, sealOk := x.sealOk, lastRule := x.lastRule })

/-- LOAD_RESET (R253, R254, R276). -/
def execLoadReset (u : BnId) (s : State) : Host.Outcome State Fault Refusal := .next (s.access u Bn.loadReset)

end Sys2Proof.Machine
end

