-- ==== Sys2Proof/Machine/Acq.lean ====
section
/-! DEFINITION. Acquisition (R308-R328): start and stop, the boundaries of a run, the water marks and the rate level (R297, R324),
the cut (R326), the trigger (R314); queue flushes (R293) and the scrubs of the galley (R301-R304). -/

namespace Sys2Proof.Machine

/-- Change the acquisition state. -/
def Bn.mapAcq (b : Bn) (f : Acq → Acq) : Bn := { b with acq := f b.acq }

/-- Whether a FULL forme impress is armed (R261). -/
def Bn.fullArmed (b : Bn) : Bool := b.stage.st == .armed && b.stage.formeIn && b.loader.cls == 0

/-- MTYPE and MDATA of a CONTROL message (R384, R421). -/
def ctlMsg (code crossing arg : Nat) : Nat := 2 * 2 ^ 180 + code * 2 ^ 176 + crossing % 2 ^ 48 * 2 ^ 128 + arg % 2 ^ 128

/-- A CONTROL message waits for a frame (R384). -/
def Bn.sendCtl (b : Bn) (code crossing arg : Nat) : Bn :=
  { b with xl := { b.xl with ctl := b.xl.ctl ++ [ctlMsg code crossing arg] } }

/-- A joining unit gives up its entry (R418). -/
def Bn.abortJoin (b : Bn) : Bn :=
  { b with
    lease := { b.lease with join := { b.lease.join with code := 3, y := none, got := [], count := 0, l := none } }
    stage := { b.stage with restoreArmed := false } }

/-- The ACTIVE unit sends no more of an entry. -/
def Bn.dropEntry (b : Bn) : Bn :=
  { b with
    lease := { b.lease with join := { b.lease.join with y := none, outIdx := 0, count := 0, l := none } }
    xl := { b.xl with st := [] } }

/-- Shadow entry under way ends on this unit (R418): the ACTIVE unit defers with a reason, the joining unit gives up. -/
def Bn.endEntry (b : Bn) (reason : Nat) : Bn :=
  let j := b.lease.join
  if b.holds = true ∧ j.y.isSome = true then b.dropEntry.sendCtl 3 b.now (reason * 2 ^ 124)
  else if b.lease.role = .cold ∧ j.code = 2 then b.abortJoin
  else b

/-- START as of R309: evaluated on the ACQ_AT words as they stand. -/
def Bn.acqStart (b : Bn) : Bn × Status :=
  let s := b.rdXc 0x2402
  if b.acq.phase ≠ .idle then (b, .busy)
  else if b.power.dev ≠ .ready ∨ b.loader.live = false then (b, .denied)
  else if b.fullArmed then (b, .busy)
  else if s < b.now + 64 ∨ b.now + 2 ^ 20 < s then (b, .range)
  else (((b.mapAcq (fun a => { a with phase := .startPend, s := s })).wrXc 0x2405 s).endEntry 3, .ok)

/-- STOP as of R309. -/
def Bn.acqStop (b : Bn) : Bn × Status :=
  let e := b.rdXc 0x2402
  match b.acq.phase with
  | .idle => (b, .denied)
  | .stopPend => (b, .busy)
  | .drain => (b, .busy)
  | _ =>
    if e ≤ b.acq.s ∨ e < b.now + 64 ∨ b.now + 2 ^ 20 < e then (b, .range)
    else ((b.mapAcq (fun a => { a with phase := .stopPend, e := e })).wrXc 0x2408 e, .ok)

/-- A write of ACQ_CMD (R309). -/
def Bn.acqCmd (b : Bn) (op : Nat) : Bn × Status :=
  match op with
  | 0 => (b, .ok)
  | 1 => b.acqStart
  | 2 => b.acqStop
  | _ => (b, .range)

/-- START (R309). -/
def execStart (u : BnId) (s : State) : Host.Outcome State Fault Refusal := .next (s.access u (fun b => b.acqCmd 1))

/-- STOP (R309). -/
def execStop (u : BnId) (s : State) : Host.Outcome State Fault Refusal := .next (s.access u (fun b => b.acqCmd 2))

/-- The rate level of the current crossing (R324). -/
def Bn.rateLevel (b : Bn) : Nat :=
  let w := b.rd 0x2413
  let f := fld (b.rd 0x2C0B) 2 0
  let a := if wbit w 19 then (if f.testBit 2 then 3 else if f.testBit 1 then 2 else if f.testBit 0 then 1 else 0) else 0
  max (fld w 1 0) a

/-- The cut for the present step (R326). -/
def Bn.cutNow (b : Bn) : Nat :=
  min ((b.rd 0x2414).toNat + b.acq.cutN * (b.rd 0x2415).toNat) (b.rd 0x2417).toNat

/-- WATER_MARKS at a boundary: the flags (R297), then the level of the crossing and its counters (R324, R332). -/
def Bn.waterMarks (b : Bn) : Bn :=
  if b.acq.lvlAt = some b.xc then b
  else
    let occ := b.watchOcc
    let flag (k : Nat) : Bool :=
      if (b.rd (0x2C03 + 2 * k)).toNat ≤ occ then true
      else if occ ≤ (b.rd (0x2C04 + 2 * k)).toNat then false
      else wbit (b.rd 0x2C0B) (k - 1)
    let b1 := (b.wrN 0x2C04 occ).wrN 0x2C0B (b2n (flag 1) + 2 * b2n (flag 2) + 4 * b2n (flag 3))
    let l := b1.rateLevel
    let b2 := b1.mapAcq (fun a => { a with level := l, lvlAt := some b.xc })
    if b.power.dev = .run then
      (List.range 3).foldl (fun b k => if k + 1 ≤ l then b.bump (0x241B + k) else b) b2
    else b2

/-- WATER_MARKS (R297, R324). -/
def execWaterMarks (u : BnId) (s : State) : Host.Outcome State Fault Refusal :=
  .next (if s.hasBn u = true ∧ (s.bn u).executes = true then s.mapBn u Bn.waterMarks else s)

/-- CUT_STEP at a boundary (R326). -/
def Bn.cutStep (b : Bn) : Bn :=
  let a := b.acq
  let dwell := (b.rd 0x2416).toNat
  let since := match a.cutAt with
    | some x => b.xc - x
    | none => dwell
  let entering := decide (a.prevLevel < 2) && decide (2 ≤ a.level)
  let n :=
    if b.power.dev ≠ .run ∨ a.cutAt = some b.xc then a.cutN
    else if 2 ≤ a.level then
      (if b.cutNow < (b.rd 0x2417).toNat ∧ (entering = true ∨ dwell ≤ since) then a.cutN + 1 else a.cutN)
    else if 0 < a.cutN ∧ dwell ≤ since then a.cutN - 1
    else a.cutN
  let b1 := b.mapAcq (fun a => { a with cutN := n, cutAt := if n = a.cutN then a.cutAt else some b.xc })
  (b1.mapAcq (fun a => { a with totcut := b1.cutNow })).wrN 0x2418 b1.cutNow

/-- CUT_STEP (R326). -/
def execCutStep (u : BnId) (s : State) : Host.Outcome State Fault Refusal :=
  .next (if s.hasBn u = true ∧ (s.bn u).executes = true then s.mapBn u Bn.cutStep else s)

/-- A TRIG fast code (R314): shown in the next crossing, when the unit is in RUN. -/
def Bn.fcTrig (b : Bn) (arg : Nat) : Bn :=
  if b.power.dev = .run then { b.bump 0x2419 with time := { b.time with trigNow := some arg } } else b.bump 0x241A

/-- A run starts (R310, R184, R337, R411, R402): the compositors begin from zeros, or from the state put in place; the sheet
settings are latched; the transmit pointer, LAG and the HOLD range are set; the junction of a pair in lockstep is S. -/
def Bn.runStart (b : Bn) (sln2 : Bool) : Bn :=
  let s20 := wof b.now
  let n := fld (b.rd 0x2800) 2 0
  let armed := b.stage.restoreArmed
  let b1 := if armed then b else b.mapArr (fun a => { a with comps := (a.comps.map (fun p => (p.1, p.2.clear))).filter (fun p => p.2 != .zero) })
  let dropped : Bool := b.holds && decide (0 < dist20 (wof ((b.rd 0x2802).toNat + 1)) (b.rd 0x2009)) && b.sheets.firstSeq.isSome
  let lock : Bool := !sln2 && (b.lease.role == .shadow || (b.lease.role == .active && !b.xl.down &&
    (b.xl.force.map (fun f => bitsOf f 239 237)) == some 1))
  let hist := b1.fst
  { b1 with
    power := { b1.power with dev := .run }
    acq := { b1.acq with phase := .run, sXc := b.xc, cutN := 0, cutAt := some b.xc }
    stage := { b1.stage with restoreArmed := false }
    arr := { b1.arr with cursor := 0, jwords := [] }
    anchors := { b1.anchors with due := [], cand := [] }
    sheets := { b1.sheets with asms := [], firstSeq := none, hold := false, tkR := false }
    lease := { b1.lease with
      jvalid := lock, tailDrop := b1.lease.tailDrop || dropped }
    fst := if armed then
        { FormeSt.fresh with startKey := false, med := hist.med, mean := hist.mean, tabs := hist.tabs, counts := hist.counts }
      else .fresh }
  |>.wr 0x2801 (wof (b2n (wbit (b.rd 0x2800) 19) * 2 ^ 19 + n))
  |>.wr 0x2009 s20
  |>.wr 0x2008 (s20 - 1#20)
  |>.wr 0x200A 0
  |>.wr 0x200E 0
  |>.wr 0x200F 0
  |> fun b => if lock then b.wr 0x200B s20 else b

/-- RUN_START: the boundary of S (R309, R310, R477). -/
def execRunStart (u : BnId) (s : State) : Host.Outcome State Fault Refusal :=
  let b := s.bn u
  if s.hasBn u = true ∧ b.acq.phase = .startPend ∧ b.now = b.acq.s ∧ b.power.dev = .ready ∧ b.power.clkWait = false then
    .next (s.setBn u (((b.runStart (s.variant == .sln2)).mapAcq (fun a => { a with totcut := 0 })).cutStep))
  else .next s

/-- DRAIN: the boundary of E (R311), or that of the exit when E passed in DOZE. -/
def execDrain (u : BnId) (s : State) : Host.Outcome State Fault Refusal :=
  let b := s.bn u
  if s.hasBn u = true ∧ b.acq.phase = .stopPend ∧ b.acq.e ≤ b.now ∧ b.power.dev = .run then
    .next (s.setBn u (b.mapAcq (fun a => { a with phase := .drain })))
  else .next s

/-- Whether a queue belongs to the forme: READER = 0, neither queue 34 nor a reserved number (R294, R311). -/
def Bn.formeQueue (b : Bn) (q : Nat) : Bool := !b.reader q && q != 34 && !qReserved q

/-- The forme stops and the unit is in READY (R220, R311). -/
def Bn.stopForme (b : Bn) : Bn :=
  let b1 := b.mapArr (fun a => { a with comps := a.comps.map (fun p => (p.1, p.2.halt)), cursor := 0, jwords := [] })
  { b1 with power := { b1.power with dev := .ready }, acq := { b1.acq with phase := .idle } }

/-- DRAIN_END: the boundary of E + STOP_DRAIN (R311). -/
def Bn.drainEnd (b : Bn) : Bn :=
  let tail := decide (0 < b.watchOcc)
  let b1 := b.stopForme
  let b2 := ((List.range 64).filter b1.formeQueue).foldl (fun b q => b.flushQueue q) b1
  if tail then b2.bit 0x2401 16 true else b2

/-- DRAIN_END (R311). -/
def execDrainEnd (u : BnId) (s : State) : Host.Outcome State Fault Refusal :=
  let b := s.bn u
  if s.hasBn u = true ∧ b.acq.phase = .drain ∧ b.acq.e + (b.rd 0x240B).toNat ≤ b.now ∧ b.power.dev = .run then
    .next (s.setBn u b.drainEnd)
  else .next s

/-- QUEUE_FLUSH_APPLY: the boundary of the crossing that a QUEUE_FLUSH named (R293). -/
def execQueueFlushApply (u : BnId) (q : Fin 64) (s : State) : Host.Outcome State Fault Refusal :=
  let b := s.bn u
  if s.hasBn u = true ∧ b.gal.flushes.any (fun p => p.1 == q.val && p.2 == b.now) = true then
    .next (s.setBn u ((b.flushQueue q.val).mapGal (fun g =>
      { g with flushes := g.flushes.filter (fun p => !(p.1 == q.val && p.2 == b.now)) })))
  else .next s

/-- Whether the galley banks are on. -/
def Bn.galOn (b : Bn) : Bool := (List.range 16).all (fun i => b.domOn (136 + i))

/-- BACKGROUND_SCRUB: one crossing of it; it is suspended while a commanded scrub runs (R301, R302). -/
def execBackgroundScrub (u : BnId) (s : State) : Host.Outcome State Fault Refusal :=
  let b := s.bn u
  if s.hasBn u = true ∧ b.executes = true ∧ b.galOn = true ∧ wbit (b.rd 0x2C12) 19 = true ∧ b.gal.scrub.isNone = true then
    .next (s.setBn u (b.scrubBackground (fld (b.rd 0x2C12) 5 0)))
  else .next s

/-- Visits of a commanded scrub (R302, R304). -/
def Bn.scrubCells (b : Bn) (a : Nat) : Nat → Bn
  | 0 => b
  | k + 1 => (b.scrubOne a).scrubCells (a + 1) k

/-- One crossing of a commanded scrub: `rate` cells; DONE after the last (R302, R304). -/
def Bn.scrubAdvance (b : Bn) : Bn :=
  match b.gal.scrub with
  | none => b
  | some c =>
    let k := min c.rate (c.last + 1 - c.next)
    let b1 := b.scrubCells c.next k
    let nx := c.next + k
    if c.last < nx then (b1.mapGal (fun g => { g with scrub := none })).wrN 0x2C13 (2 ^ 18 + nx % 2 ^ 18)
    else (b1.mapGal (fun g => { g with scrub := some { c with next := nx } })).wrN 0x2C13 (2 ^ 19 + nx)

/-- SCRUB_COMPLETE: the commanded scrub runs to its end (R302, R304). The crossings in between are not told apart (log
entry 14). -/
def execScrubComplete (u : BnId) (s : State) : Host.Outcome State Fault Refusal :=
  let b := s.bn u
  match b.gal.scrub with
  | some c =>
    if s.hasBn u = true ∧ b.executes = true then
      .next (s.setBn u ({ b with gal := { b.gal with scrub := some { c with rate := 2 ^ 18 } } }.scrubAdvance))
    else .next s
  | none => .next s

end Sys2Proof.Machine
end

