-- ==== Sys2Proof/Machine/FvExec.lean ====
section
/-! DEFINITION. The commands of the FV dies: resets and tests (R141, R549, R490), the channel and its ring (R57-R92), the trays
(R90-R113), the ligature (R114-R145), SAFE (R137-R140), charge injection (R70), the writes that a unit makes through its port. -/

namespace Sys2Proof.Machine

/-- Change an FV die that the variant contains. -/
def State.onFv (s : State) (d : Die) (g : Fv → Fv) : State := if s.variant.hasFv d then s.mapFv d g else s

/-- An access of a unit to an FV die outside a packet (R24, R132): applied by the die when the unit holds a lease and its port is
the reference port, NOT_ACTIVE otherwise. -/
def State.fvDirect (s : State) (u : BnId) (d : Die) (g : Fv → Fv × Status) : State :=
  let f := s.fv d
  if s.hasBn u = false ∨ s.variant.hasFv d = false ∨ f.powered = false then s
  else if (s.bn u).holds = true ∧ f.refPort = u then
    let x := g f
    (s.setFv d x.1).mapBn u (fun b => { b with last := x.2 })
  else s.mapBn u (fun b => { b with last := .notActive })

/-- The asynchronous clock-loss lines as the units drive them (R137, R467, R527). -/
def State.lineOf (s : State) (u : BnId) : Bool := (s.bn u).power.clkLossOut

/-- FV_RESET: power-up of the supplies, or another reset of a die that has them (R141). -/
def execFvReset (d : Die) (powerUp : Bool) (s : State) : Host.Outcome State Fault Refusal :=
  .next (s.onFv d (fun f => if powerUp || f.powered then f.reset powerUp else f))

/-- The self-test of a die, once after each reset, as soon as a reference is there (R549, R558). -/
def Fv.selfTest (f : Fv) : Fv :=
  if f.powered = true ∧ f.testDone = false ∧ (f.portA.refOn = true ∨ f.portB.refOn = true) then
    { f with testDone := true, test := f.health }
  else f

/-- FV_SELF_TEST (R549). -/
def execFvSelfTest (d : Die) (s : State) : Host.Outcome State Fault Refusal := .next (s.onFv d Fv.selfTest)

/-- The holder writes back a list of retained words of a die from the pantry (R490). -/
def Bn.restoreWords (b : Bn) (d : Die) (offs : List Nat) : Bn :=
  let b1 := offs.foldl (fun b off => b.ask d 1 off (b.pw ((pantryFv d off).getD 0)) .restore) b
  { b1 with pantry := { b1.pantry with restore := b1.pantry.restore ++ [(d, offs.length)] } }

/-- FV_RESTORE: after a reset of a die the holder writes its retained fields back (R490). -/
def execFvRestore (u : BnId) (d : Die) (s : State) : Host.Outcome State Fault Refusal :=
  let b := s.bn u
  if s.hasBn u = true ∧ s.variant.hasFv d = true ∧ b.holds = true ∧ b.pantry.restore.any (fun p => p.1 == d) = false then
    .next (s.setBn u (b.restoreWords d fvRetained))
  else .next s

/-- LEADING_EDGE (R83, R57, R63-R65, R92). -/
def execLeadingEdge (d : Die) (ch : Chan) (disc : Disc) (e : Edge) (nextXc : Bool) (k : Edge) (e1 e2 e3 : Latch) (s : State) :
    Host.Outcome State Fault Refusal :=
  .next (s.onFv d (fun f => f.leading ch.val disc e (8 * (f.xc + b2n nextXc) + k.val) e1 e2 e3))

/-- TRAILING_EDGE (R58, R87, R92). -/
def execTrailingEdge (d : Die) (ch : Chan) (disc : Disc) (e : Edge) (t : Latch) (s : State) : Host.Outcome State Fault Refusal :=
  .next (s.onFv d (fun f => f.trailing ch.val disc e t))

/-- RING_OVERFLOW (R87). -/
def execRingOverflow (d : Die) (ch : Chan) (e : Edge) (s : State) : Host.Outcome State Fault Refusal :=
  .next (s.onFv d (fun f => f.overflowAt ch.val (f.edge e + 1)))

/-- SATURATION (R74, R121, R122, R124). -/
def execSaturation (d : Die) (ch : Chan) (e : Edge) (s : State) : Host.Outcome State Fault Refusal :=
  .next (s.onFv d (fun f => if f.powered then (f.saturate ch.val).lateNotice e else f))

/-- TAKE (R90). -/
def execTake (d : Die) (t : Tray) (e : Edge) (s : State) : Host.Outcome State Fault Refusal :=
  .next (s.onFv d (fun f => f.takeAt t e))

/-- HIT_DELIVERY (R97-R99, R108, R113): the unlatched vT of an overflow's tap word is a free value (log entry 5). -/
def execHitDelivery (d : Die) (t : Tray) (e : Edge) (s : State) : Host.Outcome State Fault Refusal :=
  let (s1, v) := s.free 2
  .next (s1.onFv d (fun f => f.deliverAt t e v))

/-- RE_ARM (R91, R92). -/
def execReArm (d : Die) (ch : Chan) (e : Edge) (s : State) : Host.Outcome State Fault Refusal :=
  .next (s.onFv d (fun f => f.rearmAt ch.val e))

/-- FRAME_FILL: the boundary of the die's next crossing and its frame (R114-R128). -/
def execFrameFill (d : Die) (s : State) : Host.Outcome State Fault Refusal :=
  .next (s.onFv d (fun f => (f.nextCrossing s.variant).skipPulse))

/-- INJECTION_PULSE (R68-R71). -/
def execInjectionPulse (d : Die) (s : State) : Host.Outcome State Fault Refusal := .next (s.onFv d Fv.pulse)

/-- FRAME_CHECK (R192). -/
def execFrameCheck (u : BnId) (d : Die) (pos : Option (Fin 32)) (others : Nat) (err : SMap Dbl) (s : State) :
    Host.Outcome State Fault Refusal :=
  .next (s.frameJudge u d pos others err)

/-- LIGATURE_DELIVERY (R193). -/
def execLigatureDelivery (u : BnId) (d : Die) (beat : Fin 31) (s : State) : Host.Outcome State Fault Refusal :=
  .next (s.deliver u d beat.val)

/-- BN_FRAME_RECEIVE (R129-R136). -/
def execBnFrameReceive (d : Die) (u : BnId) (err : SMap Dbl) (s : State) : Host.Outcome State Fault Refusal :=
  .next (if s.variant.hasFv d then s.bnFrame d u err else s)

/-- TDC_RESTART (R144). -/
def execTdcRestart (d : Die) (s : State) : Host.Outcome State Fault Refusal :=
  .next (s.onFv d (fun f =>
    match f.sw with
    | some x => if f.xc = x.first + 1 then f.restart else f
    | none => f))

/-- FV_IMPRESS (R135). -/
def execFvImpress (d : Die) (s : State) : Host.Outcome State Fault Refusal :=
  .next (s.onFv d (fun f => f.impressNow s.variant))

/-- SCALE_APPLY (R133). -/
def execScaleApply (d : Die) (s : State) : Host.Outcome State Fault Refusal := .next (s.onFv d Fv.scaleNow)

/-- PHASE_MEASUREMENT (R100, R101). -/
def execPhaseMeasurement (d : Die) (t : Tray) (first : BnId) (near : Bool) (vT e1 e2 e3 : Latch) (s : State) :
    Host.Outcome State Fault Refusal :=
  .next (s.onFv d (fun f =>
    if f.powered = true ∧ f.num % 1024 = 0 ∧ (f.portA.refOn = true ∨ f.portB.refOn = true) then
      let w := f.phaseWord s.variant first near (Config.routeSkew d t) vT e1 e2 e3
      f.setTray t { f.tray t with phasePend := some (f.xc + 2, w) }
    else f))

/-- REQUEST_SERVE (R136). -/
def execRequestServe (d : Die) (s : State) : Host.Outcome State Fault Refusal :=
  .next (s.onFv d (fun f => Fv.serve s.variant d f))

/-- REQUEST_TIMEOUT (R136). -/
def execRequestTimeout (u : BnId) (d : Die) (s : State) : Host.Outcome State Fault Refusal :=
  .next (if s.hasBn u then s.mapBn u (fun b => b.timeoutReq d) else s)

/-- KEEPALIVE (R137). -/
def execKeepalive (d : Die) (s : State) : Host.Outcome State Fault Refusal :=
  .next (s.onFv d (fun f => if f.powered = true ∧ 1024 ≤ f.silent then f.enterSafe 1 else f))

/-- CLOCK_LOSS_LINE (R137): only the line of the reference port has an effect. -/
def execClockLossLine (d : Die) (u : BnId) (s : State) : Host.Outcome State Fault Refusal :=
  .next (s.onFv d (fun f =>
    if f.powered = true ∧ s.lineOf u = true then
      let g := f.setPort u { f.port u with clkLoss := true }
      if f.refPort = u then g.enterSafe 2 else g
    else f))

/-- The reference of a port stops (R137, R138, R143, R579). -/
def Fv.refLost (f : Fv) (u : BnId) : Fv :=
  let p := f.port u
  if f.powered = false ∨ p.refOn = false then f
  else
    let f1 := f.setPort u { p with refOn := false, trained := false, wasTrained := p.trained || p.wasTrained, got := none }
    let other := (f1.port u.other).refOn
    let f2 := if u = f.refPort then { f1.enterSafe 3 with reflossAsk := if other then some u.other else none } else f1
    if other then f2 else { f2 with renumber := true }

/-- REFLOSS (R137). -/
def execRefloss (d : Die) (u : BnId) (s : State) : Host.Outcome State Fault Refusal := .next (s.onFv d (fun f => f.refLost u))

/-- The reference of a port is there again; with none before, the port becomes the reference port (R138). -/
def Fv.refBack (f : Fv) (u : BnId) : Fv :=
  let p := f.port u
  if p.refOn then f
  else
    let none_ := f.portA.refOn = false ∧ f.portB.refOn = false
    let f1 := f.setPort u { p with refOn := true }
    if none_ then { f1 with refPort := u, renumber := true, named := none, sw := none } else f1

/-- REFERENCE_RETURN (R138): the unit forwards its reference while its PLL is locked. -/
def execReferenceReturn (d : Die) (u : BnId) (s : State) : Host.Outcome State Fault Refusal :=
  .next (s.onFv d (fun f =>
    if f.powered = true ∧ s.hasBn u = true ∧ (s.bn u).power.pllLock = true ∧ (s.bn u).power.clkWait = false then f.refBack u
    else f))

/-- COUNT_RUN_START (R65). -/
def execCountRunStart (u : BnId) (d : Die) (sel : Bool) (len : BitVec 16) (s : State) : Host.Outcome State Fault Refusal :=
  .next (s.fvDirect u d (fun f => f.write s.variant 0x080A (wof (2 ^ 19 + b2n sel * 2 ^ 18 + len.toNat))))

/-- COUNT_RUN_STOP (R65). -/
def execCountRunStop (u : BnId) (d : Die) (sel : Bool) (len : BitVec 16) (s : State) : Host.Outcome State Fault Refusal :=
  .next (s.fvDirect u d (fun f => f.write s.variant 0x080A (wof (b2n sel * 2 ^ 18 + len.toNat))))

/-- COUNT_WINDOW_END (R65). -/
def execCountWindowEnd (d : Die) (s : State) : Host.Outcome State Fault Refusal :=
  .next (s.onFv d (fun f =>
    match f.window with
    | some (_, b) => if b ≤ f.xc then { f with window := none }.wr 0x080A (setFld (f.rd 0x080A) 19 19 0) else f
    | none => f))

/-- FV_IMPRESS_DISCARD: IMPRESS.DISCARD written 1 (R146). -/
def execFvImpressDiscard (u : BnId) (d : Die) (s : State) : Host.Outcome State Fault Refusal :=
  .next (s.fvDirect u d (fun f => f.write s.variant 0x0403 0x20000#20))

/-- SAFE_CLEAR: STATUS.SAFE written 1 (R140). -/
def execSafeClear (u : BnId) (d : Die) (s : State) : Host.Outcome State Fault Refusal :=
  .next (s.fvDirect u d (fun f => f.write s.variant 0x0400 0x80000#20))

/-- CALFAIL_CNT_AUTO_INC: a read of CALFAIL_CNT with CNT_SEL.AUTO_INC moves the window (R109, R110). Reads need no lease. -/
def execCalfailCntAutoInc (u : BnId) (d : Die) (s : State) : Host.Outcome State Fault Refusal :=
  let f := s.fv d
  if s.hasBn u = false ∨ s.variant.hasFv d = false ∨ f.powered = false then .next s
  else
    let x := f.read s.variant d 0x1C07
    .next ((s.setFv d x.1).mapBn u (fun b => { b with last := x.2.1 }))

/-- FDOM_REQ: the request bit of an FV domain written (R476, R494). -/
def execFdomReq (u : BnId) (d : Die) (dom : Fin 135) (req : Bool) (s : State) : Host.Outcome State Fault Refusal :=
  .next (s.fvDirect u d (fun f => f.write s.variant (0x2400 + dom.val) (if req then 0x20000#20 else 0)))

end Sys2Proof.Machine
end

