-- ==== Sys2Proof/Machine/Cross.lean ====
section
/-! DEFINITION. What a crossing boundary does to a BN die: device time (R149-R158), the transmit lanes (R370, R371), the
cross-link frames and what they bring (R383-R387, R421), roles and takeovers (R393-R413). -/

namespace Sys2Proof.Machine

/-- Device time wraps with SEC after 2^32 s (R149). -/
def timeWrap : Nat := 2 ^ 32 * 1024000000000 * 2 ^ 20

/-- The scale word of a rate (R155). -/
def scaleOf (rate : Int) : Nat := (819200 + (rate + 16384).fdiv 32768).toNat

/-- SCALE_OUT is derived in the crossing whose counter mod 1024 is 960 (R155). -/
def Bn.scaleOut (b : Bn) : Bn := if b.now % 1024 = 960 then b.wrN 0x180B (scaleOf b.time.rate) else b

/-- Counter, own count and device time pass one boundary (R153, R156, R157). -/
def Time.pass (t : Time) : Time :=
  { t with
    t := ((t.t : Int) + 25600 * 2 ^ 20 + t.rate).toNat % timeWrap
    prev := t.counter
    counter := if t.xreset then 0 else (t.counter + 1) % 2 ^ 48
    xc := t.xc + 1
    xcSync := t.xcSync || t.xreset
    xreset := false
    trigShown := t.trigNow
    trigNow := none
    calpNow := t.calpNext
    calpNext := false }

/-- Whether a transmit lane is out of electrical idle (R370, R467). Lane numbers 0-3 and 5. -/
def Bn.laneAllowed (b : Bn) (sln2 : Bool) (l : Nat) : Bool :=
  let ei := wbit (b.rd (0x1C11 + 8 * l)) 14
  let on := if l < 4 then b.domOn (152 + l) else b.domOn 157
  on && !b.power.clkWait && (match b.power.dev with
    | .minimal => l == 0 || l == 5
    | .ready | .run => if l = 0 then true else if l < 4 then (b.holds || sln2) && !ei else !ei
    | .doze => l == 5
    | _ => false) && !(sln2 && l == 5)

/-- One transmit lane follows R370: a lane that may leave electrical idle begins its training burst (R371), once its serializer
has lock (R481). -/
def Bn.laneFollow (b : Bn) (sln2 : Bool) (l : Lane) : Bn :=
  let x := b.lane l
  let ok := b.laneAllowed sln2 l.val
  match x.st, ok with
  | .idle, true =>
    if x.lol then b
    else b.setLane l { x with st := .training, trainEnd := b.xc + (if l.val < 4 then 13 else 32), fault := true }
  | .training, false => b.setLane l { x with st := .idle }
  | .active, false => b.setLane l { x with st := .idle }
  | .prbs, false => b.setLane l { x with st := .idle }
  | _, _ => b

/-- Whether a lane receives (R366). -/
def laneRx (l : Lane) : Bool := l.val == 4 || l.val == 6

/-- The LSTAT, LCFG and LINJ words of a lane (R392). -/
def lStat (l : Lane) : Nat := 0x1C10 + 8 * l.val

/-- Change one lane. -/
def Bn.mapLane (b : Bn) (l : Lane) (f : LaneSt → LaneSt) : Bn := b.setLane l (f (b.lane l))

/-- LOL asserts (R373). -/
def Bn.lolUp (b : Bn) (l : Lane) : Bn :=
  if (b.lane l).lol then b else ((b.mapLane l (fun x => { x with lol := true })).bump (0x1C16 + 8 * l.val)).bit (lStat l) 13 true

/-- The length of a training burst in crossings (R371). -/
def burstXc (l : Lane) : Nat := if l.val < 4 then 13 else 32

/-- A lane restarts at this boundary (R444): a transmit lane sends the training burst unless it is in electrical idle; a receive lane
drops CDR and block lock. -/
def Bn.restartLane (b : Bn) (l : Lane) : Bn :=
  if laneRx l then (b.mapLane l (fun x => { x with cdrLock := false, blockLock := false, goodRun := 0, recent := [] })).lolUp l
  else if (b.lane l).st = .idle then b
  else b.mapLane l (fun x => { x with st := .training, trainEnd := b.xc + burstXc l, fault := true })

/-- Whether the reply that something waits for has left UP0: its mark, counted into queue 34, has been sent whole. -/
def Bn.hasLeft (b : Bn) (k : Option Nat) : Bool := k.any (fun n => decide (n < b.marksSent))

/-- The lane restarts whose replies have left (R444). -/
def Bn.restartLanes (b : Bn) : Bn :=
  b.power.after.foldl (fun b p =>
    match p with
    | (.lane l, k) => if b.hasLeft k then { b with power := { b.power with after := removeFirst (fun q => q == p) b.power.after } }.restartLane l else b
    | _ => b) b

/-- The transmit lanes of a unit follow R370. -/
def Bn.lanesFollow (b : Bn) (sln2 : Bool) : Bn := ([0, 1, 2, 3, 5] : List Lane).foldl (fun b l => b.laneFollow sln2 l) b

/-- The code of a role in frames and status sheets (R348). A unit without a role shows COLD in its frames (log entry 15). -/
def Role.code : Role → Nat
  | .active => 0
  | .shadow => 1
  | .cold => 2
  | .quiet => 3
  | .minimal => 4
  | .failed => 5
  | .none => 2

/-- The code of a device state (R348). -/
def DevState.code : DevState → Nat
  | .off => 0
  | .boot => 1
  | .minimal => 2
  | .ready => 3
  | .run => 4
  | .doze => 5
  | .sleep => 6
  | .shutdown => 7

/-- MTYPE and MDATA of an ANCHOR message (R385). -/
def ancMsg (a : Anc) : Nat :=
  let tk := a.t / 2 ^ 20
  1 * 2 ^ 180 + a.cause * 2 ^ 178 + b2n a.unset * 2 ^ 177 + b2n a.sync * 2 ^ 176 + b2n a.src * 2 ^ 175 + a.counter * 2 ^ 127 +
    ofInt a.rate 24 * 2 ^ 103 + tk / 1024000000000 % 2 ^ 32 * 2 ^ 71 + tk % 1024000000000 / 1024 * 2 ^ 41 + tk % 1024 * 2 ^ 31 +
    a.t % 2 ^ 20 * 2 ^ 11

/-- The anchor that an ANCHOR message carries (R385). -/
def ancOfMsg (m : Nat) : Anc :=
  let tk := bitsOf m 102 71 * 1024000000000 + bitsOf m 70 41 * 1024 + bitsOf m 40 31
  ⟨bitsOf m 179 178, m.testBit 177, m.testBit 176, m.testBit 175, bitsOf m 174 127, sx (bitsOf m 126 103) 24,
    tk * 2 ^ 20 + bitsOf m 30 11⟩

/-- The four doubles of a STATE message with their index (R384). -/
def stateMsg (i : Nat) (ds : List Dbl) : Nat :=
  4 * 2 ^ 180 + i * 2 ^ 160 + (List.range 4).foldl (fun a k => a * 2 ^ 40 + (ds.getD k 0).toNat) 0

/-- The message that leaves in this crossing's frame, in the order of R384, and the unit without it. The anchor of the sheet of
this crossing leaves in the frame of the next (R385). -/
def Bn.takeMsg (b : Bn) : Bn × Nat :=
  let ready (m : Nat) : Bool := bitsOf m 174 127 != b.now % 2 ^ 48
  match b.xl.anc.find? ready, b.xl.ctl, b.xl.twin, b.xl.st with
  | some m, _, _, _ => ({ b with xl := { b.xl with anc := removeFirst ready b.xl.anc } }, m)
  | none, m :: t, _, _ => ({ b with xl := { b.xl with ctl := t } }, m)
  | none, [], m :: t, _ => ({ b with xl := { b.xl with twin := t } }, m)
  | none, [], [], m :: t => ({ b with xl := { b.xl with st := t } }, m)
  | none, [], [], [] => (b, 0)

/-- The sheet assembled in the crossing before the current one. -/
def Bn.asmAt (b : Bn) (x : Nat) : Option Asm := b.sheets.asms.find? (fun a => a.xc == x)

/-- The cross-link frame of the current crossing (R383). -/
def Bn.frameOut (b : Bn) : Bn × Nat :=
  let (b1, m) := b.takeMsg
  let cv := match b.asmAt (b.xc - 1) with
    | some a => 2 ^ 232 + a.check * 2 ^ 200
    | none => 0
  let probe := b2n (b.arr.probeOk && b.arr.probeRec == some (b.xc - 2))
  let f := b.now % 2 ^ 16 * 2 ^ 240 + b.lease.role.code * 2 ^ 237 + b2n b.holds * 2 ^ 236 + b2n b.lease.claim * 2 ^ 235 +
    probe * 2 ^ 234 + b2n (wbit (b.rd 0x2C01) 17) * 2 ^ 233 + cv + m * 2 ^ 16
  (b1, f + crc16Frame (BitVec.ofNat 256 f))

/-- Whether the unit sends cross-link frames (R370, R371): its lane carries content. -/
def Bn.xlSends (b : Bn) : Bool := (b.lane 5).st == .active

/-- ROLE of a frame. -/
def frRole (f : Nat) : Nat := bitsOf f 239 237

/-- LH of a frame. -/
def frLh (f : Nat) : Bool := f.testBit 236

/-- MTYPE of a frame. -/
def frType (f : Nat) : Nat := bitsOf f 199 196

/-- MTYPE and MDATA of a frame, as the messages are kept. -/
def frMsg (f : Nat) : Nat := bitsOf f 199 16

/-- The CONTROL message of the frame that came into force at this boundary: code, crossing, argument (R384, R386). -/
def Bn.ctlNow (b : Bn) : Option (Nat × Nat × Nat) :=
  match b.xl.force with
  | some f =>
    if b.xl.forceAt = b.xc ∧ frType f = 2 then
      some (bitsOf f 195 192, bitsOf f 191 144, bitsOf f 143 16)
    else none
  | none => none

/-- Whether the partner's frames in force show a role (R393, R404). -/
def Bn.partnerRole (b : Bn) : Option Nat := if b.xl.down then none else b.xl.force.map frRole

/-- older(a, b) of R409. -/
def older (a b : Word) : Bool := decide (0 < (b - a).toNat) && decide ((b - a).toNat < 2 ^ 19)

/-- PRIM_LAT of the live forme (R250, R335). -/
def Bn.primLat (b : Bn) : Nat := fld (b.rd 0x404A) 19 14

/-- due(x) for a crossing counter value (R408): after the last sheet of a run it stays that sheet. -/
def Bn.due (b : Bn) (x : Nat) : Word :=
  let d := wof (x + 2 ^ 48 - b.primLat)
  let last := wof (b.acq.e + 2 ^ 48 - 1)
  if b.power.dev = .run then (if b.acq.phase ≠ .run ∧ older last d = true then last else d)
  else if b.sheets.firstSeq.isSome then b.rd 0x2802
  else d

/-- LAG (R409). -/
def Bn.setTx (b : Bn) (s : Word) : Bn := b.wr 0x2009 s

/-- Ask for STATUS of every FV die present, so that SAFE of cause KEEPALIVE is cleared (R413). -/
def Bn.clearSafe (b : Bn) (dies : List Die) : Bn := dies.foldl (fun b d => b.ask d 0 0x0400 0 .safeRead) b

/-- The start of the replay at a takeover, before the window (R412). -/
def Bn.replayStart (b : Bn) (cold : Bool) : Word :=
  let u := b.rd 0x2008 + 1#20
  let j := b.rd 0x200B
  if cold = true ∧ b.lease.jvalid = true ∧ older j u = true then j else u

/-- A unit becomes ACTIVE through a grant (R412, R413): the takeover is recorded and the pointers are set. -/
def Bn.takeover (b : Bn) (dies : List Die) : Bn :=
  let was := b.lease.role
  let cold : Bool := was == .cold
  let rf := b.replayStart cold
  let newest := b.rd 0x2C1C
  let low := newest - 2047#20
  let floor := match b.sheets.firstSeq with
    | some f => if older low f then f else low
    | none => low
  let short : Bool := b.rd 0x2C1D != 0 && older rf floor
  let rf1 := if short then floor else rf
  let dueOld := match b.lease.xOld with
    | some x => b.due x
    | none => rf1
  let hf := if older rf1 dueOld then dueOld else rf1
  let kind := if was = .shadow ∨ was = .quiet then 0 else if b.lease.jvalid then 1 else 2
  let b1 := { b with
    lease := { b.lease with role := .active }
    sheets := { b.sheets with tkR := b.lease.xOld.isSome, hold := b.lease.xOld.isSome }
    anchors := { b.anchors with roleEvent := some b.now } }
  ((((b1.wr 0x200D rf1).setTx rf1).wr 0x200E (if b.lease.xOld.isSome then hf else 0)).wr 0x200F 0).wrN 0x200C
    (kind * 2 ^ 18 + b2n short * 2 ^ 17 + 2 ^ 16 + b.now % 2 ^ 16) |>.clearSafe dies

/-- The effects of entering a role (R393, R398, R415, R418): an entry or a handover under way ends. -/
def Bn.enterRole (b : Bn) (r : Role) (dies : List Die) : Bn :=
  let b1 := if b.lease.role = .cold ∧ b.lease.join.code = 2 then b.abortJoin else b
  let b2 := { b1 with
    lease := { b1.lease with join := .none, released := false, ho := none, claim := false }, xl := { b1.xl with st := [] } }
  match r with
  | .active => b2.takeover dies
  | .shadow => { b2 with lease := { b2.lease with role := .shadow, shadowSince := b.xc } }
  | _ => { b2 with lease := { b2.lease with role := r } }

/-- The role change that waits for this boundary (R393). -/
def Bn.roleBoundary (b : Bn) (dies : List Die) : Bn :=
  match b.lease.next with
  | some (r, x) => if x ≤ b.xc then { b with lease := { b.lease with next := none } }.enterRole r dies else b
  | none => b

/-- A role change from the next boundary on. -/
def Bn.roleNext (b : Bn) (r : Role) : Bn := { b with lease := { b.lease with next := some (r, b.xc + 1) } }

/-- DIVERGE (R405): set; the SHADOW unit becomes COLD from the next boundary. -/
def Bn.diverge (b : Bn) : Bn :=
  let b1 := { b with lease := { b.lease with diverge := true, evalAt := none } }
  if b.lease.role = .shadow then b1.roleNext .cold else b1

/-- Four crossings after an evaluation that both units passed (R404). -/
def Bn.divergeCheck (b : Bn) : Bn :=
  match b.lease.evalAt with
  | none => b
  | some x =>
    let gone := b.partnerRole == some 3 || b.partnerRole == some 5
    if gone then { b with lease := { b.lease with evalAt := none } }
    else if x + 4 ≤ b.xc then b.diverge
    else b

/-- The words of the throttle state as RDSYS shows them (R535). -/
def ThermSt.word (t : ThermSt) : Word :=
  let code := match t.st with
    | .normal => 0
    | .asked => 1
    | .enforced => 2
  wof (code * 2 ^ 18 + t.entry * 2 ^ 12 + t.skipK)

/-- The throttle states by code (R533). -/
def Throttle.ofCode : Nat → Throttle
  | 1 => .asked
  | 2 => .enforced
  | _ => .normal

/-- A change of the throttle state whose crossing Z has come (R533). -/
def ThermSt.pass (t : ThermSt) (now : Nat) : ThermSt :=
  t.pend.foldl (fun x p =>
    if p.1 ≤ now then { x with st := p.2.1, skipK := p.2.2.1, entry := p.2.2.2 } else { x with pend := x.pend ++ [p] }) { t with pend := [] }

/-- ALERT_STATUS (R539): the throttle bits follow the decided state, the others are stored. -/
def Bn.alertWord (b : Bn) : Nat :=
  b2n (b.therm.decided == .asked) * 128 + b2n (b.therm.decided == .enforced) * 64 + fld (b.rd 0x3401) 5 2 * 4

/-- ALERT_STATUS gains a bit: an ALERT mark is queued (R538). -/
def Bn.alertSync (b : Bn) (entry : Nat) : Bn :=
  let w := b.alertWord
  let b1 := { b with therm := { b.therm with alert := w } }
  if w &&& b.therm.alert = w then b1 else b1.ctlMark (markWords 0x14 w (wof (b.now % 2 ^ 16)) [wof entry])

/-- An alert cause is set (R538). -/
def Bn.alertBit (b : Bn) (i entry : Nat) : Bn := (b.bit 0x3401 i true).alertSync entry

/-- A CONTROL message in force acts on the unit that received it (R414, R416-R418, R533). -/
def Bn.control (b : Bn) (code x arg : Nat) : Bn :=
  let j := b.lease.join
  match code with
  | 2 =>
    if b.lease.role = .cold then
      let n := bitsOf arg 127 108
      { b with lease := { b.lease with join := { j with
        code := 2, y := some x, count := n, got := [], l := none } } }
    else b
  | 3 =>
    if b.lease.role ≠ .cold then b
    else if j.code = 2 then b.abortJoin
    else
      let reason := bitsOf arg 127 124
      { b with lease := { b.lease with join := { j with code := 1, wanted := if reason = 1 ∨ reason = 2 then false else j.wanted } } }
  | 4 => if b.lease.role = .cold ∧ j.code = 2 then { b with lease := { b.lease with join := { j with l := some x } } } else b
  | 5 =>
    if b.lease.role = .shadow then
      { b with lease := { b.lease with ho := some ⟨b.xc, x, true, wof (bitsOf arg 127 108), false, none⟩ } }
    else b
  | 6 =>
    match b.lease.ho with
    | some h => if b.holds = true ∧ h.h = x then { b with lease := { b.lease with ho := some { h with accepted := true } } } else b
    | none => b
  | 7 =>
    match b.lease.ho with
    | some h =>
      if b.lease.role = .shadow ∧ h.h = x then
        { b with lease := { b.lease with
          ho := some { h with committed := some (bitsOf arg 127 80, wof (bitsOf arg 79 60), wof (bitsOf arg 59 40)) } } }
      else b
    | none => b
  | 8 =>
    if b.holds then b
    else
      let st := Throttle.ofCode (bitsOf arg 127 126)
      let e := bitsOf arg 121 116
      if b.therm.decided = st ∧ b.therm.follower = true then b
      else { b with therm := { b.therm with
        pend := b.therm.pend ++ [(x, st, bitsOf arg 125 122, e)], decided := st, follower := true } }.alertSync e
  | _ => b

/-- What a frame that comes into force brings (R384-R387, R393). -/
def Bn.bring (b : Bn) (f : Nat) : Bn :=
  let b1 :=
    if b.lease.role = .quiet ∧ frRole f = 0 then
      b.roleNext (if b.xl.down = false ∧ b.lease.gaveUp = false then .shadow else .cold)
    else b
  let b2 := if b1.lease.join.code = 2 ∧ b1.lease.role = .cold ∧ frRole f ≠ 0 then b1.abortJoin else b1
  match frType f with
  | 1 =>
    let a := ancOfMsg (frMsg f)
    if b2.holds then b2 else { b2 with anchors := { b2.anchors with due := b2.anchors.due ++ [a], lastSrc := some a.src } }
  | 2 => b2.control (bitsOf f 195 192) (bitsOf f 191 144) (bitsOf f 143 16)
  | 3 => { b2 with xl := { b2.xl with partnerTwin := some (bitsOf f 195 163) } }
  | 4 =>
    if b2.lease.role = .cold ∧ b2.lease.join.code = 2 then
      let i := bitsOf f 195 176
      let got := (List.range 4).foldl (fun m k => mins (i + k) (dof (bitsOf f (175 - 40 * k) (136 - 40 * k))) (mdel m (i + k))) b2.lease.join.got
      { b2 with lease := { b2.lease with join := { b2.lease.join with got := got } } }
    else b2
  | _ => b2

/-- The cross-link at a boundary: the frame of the crossing that ends leaves; the frame used in it comes into force; a crossing
without a used frame counts in XL_SILENT (R383, R386, R387). -/
def Bn.xlBoundary (b : Bn) (sln2 : Bool) : Bn :=
  if sln2 then b
  else
    let (b1, f) := if b.xlSends then (let r := b.frameOut; (r.1, some r.2)) else (b, none)
    let x := b1.xl
    let silent := if x.usedNow.isSome then 0 else min ((b.rd 0x1C09).toNat + 1) 16
    let run := if x.usedNow.isSome then x.run + 1 else 0
    let fo := match x.usedNow with
      | some g => some g
      | none => x.force
    { b1 with xl := { x with
      out := f, outPrev := x.out, usedNow := none, force := fo, took := false, run := run
      forceAt := if x.usedNow.isSome then b.xc + 1 else x.forceAt } }.wrN 0x1C09 silent

/-- What a boundary does by time alone: the counter, the cycles of the compositors, what the crossing before showed (R152, R153, R156;
after an XRESET EXP keeps its distance, R395). -/
def Bn.tick (b : Bn) : Bn :=
  { b with
    time := b.time.pass
    lease := if b.time.xreset then { b.lease with exp := b.lease.exp - (b.now + 1) } else b.lease
    cyc := 0
    arr := { b.arr with cursor := 0, jwords := [], links := b.arr.links.filter (fun l => decide (b.cycle ≤ l.2.1)) }
    gal := { b.gal with storePrev := b.gal.storeNow, storeNow := [] }
    acq := { b.acq with
      prevLevel := b.acq.level, prevTotcut := b.acq.totcut, thermPrev := b.acq.thermNow, thermNow := b.therm.word } }

/-- The throttle changes whose crossing has come (R533). -/
def Bn.thermPass (b : Bn) : Bn := { b with therm := b.therm.pass b.now }

/-- The frame that comes into force at this boundary acts (R386). -/
def Bn.bringNow (b : Bn) (sln2 : Bool) : Bn :=
  match b.xl.force with
  | some f => if b.xl.forceAt = b.xc ∧ sln2 = false then b.bring f else b
  | none => b

/-- Held replies go into queue 34 as far as it admits them. -/
def Bn.pumpAll (b : Bn) : Bn := b.pumpReplies (b.replies.length + 1)

/-- One crossing boundary of a BN die (R152, R153, R156), with all that follows from it alone. -/
def Bn.advance (b : Bn) (v : Variant) (dies : List Die) : Bn :=
  let sln2 : Bool := v == .sln2
  let b1 := (b.xlBoundary sln2).tick.thermPass.scaleOut
  ((((b1.roleBoundary dies).bringNow sln2).divergeCheck.restartLanes).lanesFollow sln2).pumpAll

end Sys2Proof.Machine
end

