-- ==== Sys2Proof/Machine/Downlink.lean ====
section
/-! DEFINITION. The downlink (R374-R381): the block, its fast codes and their effects (R70, R157, R162-R168, R314, R396, R407,
R414, R452, R479), holdover (R161), the effects of a time step and of a rate (R162, R163), the snapshot (R176, R177). -/

namespace Sys2Proof.Machine

/-- Change the time service. -/
def Bn.mapTime (b : Bn) (f : Time → Time) : Bn := { b with time := f b.time }

/-- Change the lease logic. -/
def Bn.mapLease (b : Bn) (f : LeaseSt → LeaseSt) : Bn := { b with lease := f b.lease }

/-- Change the power logic. -/
def Bn.mapPower (b : Bn) (f : Power → Power) : Bn := { b with power := f b.power }

/-- Change the staged bank. -/
def Bn.mapStage (b : Bn) (f : Stage → Stage) : Bn := { b with stage := f b.stage }

/-- A time quad as a count of tk (R149, R150). -/
def quadTk (q0 q1 q2 q3 : Word) : Nat :=
  (q0.toNat * 2 ^ 12 + fld q1 19 8) * 1024000000000 + (fld q1 7 0 * 2 ^ 22 + q2.toNat * 4 + fld q3 19 18) * 1024 + fld q3 17 8

/-- Whether a time quad is valid (R151). -/
def quadOk (q1 q2 q3 : Word) : Bool := decide (fld q1 7 0 * 2 ^ 22 + q2.toNat * 4 + fld q3 19 18 ≤ 999999999)

/-- The count of tk in four words of the TIME block. -/
def Bn.rdQuad (b : Bn) (off : Nat) : Nat := quadTk (b.rd off) (b.rd (off + 1)) (b.rd (off + 2)) (b.rd (off + 3))

/-- A time quad stored in four words. -/
def Bn.wrQuad (b : Bn) (off tk : Nat) : Bn := (quad tk).zipIdx.foldl (fun b p => b.wr (off + p.2) p.1) b

/-- A device time near a boundary, in tk, modulo the wrap of SEC. -/
def tkNear (t : Nat) (d : Int) : Nat := ((((t / 2 ^ 20 : Nat) : Int) + d) % (2 ^ 32 * 1024000000000)).toNat

/-- The time service becomes UNSET with a cause (R160). -/
def Time.unset (t : Time) (cause : Nat) : Time :=
  { t with step := 0, unsetCause := cause, stepPend := none, ratePend := none, xcSync := false }

/-- The clock of the time service after a restart: 0 s, counter 0 at the boundary (R156, R160). The own count of crossings
goes on, so that no duration is cut short (log entry 11). -/
def Time.restart (t : Time) : Time :=
  { t with t := 0, counter := 0, prev := 0, xreset := false, trigNow := none, trigShown := none, calpNext := false, calpNow := false }

/-- Whether a unit's lane 4 delivers blocks: locked, and not read by its PRBS checker (R374, R388). -/
def Bn.dnUsable (b : Bn) : Bool := b.dnLock && (b.lane 4).st != .prbs

/-- Whether a downlink block can be received: a device state in which the receiver runs, no holdover, no clock wait. -/
def Bn.downOk (b : Bn) : Bool :=
  b.dnUsable && b.domOn 156 && !b.time.holdover && !b.power.clkWait &&
    (match b.power.dev with
    | .boot | .minimal | .ready | .run | .doze => true
    | _ => false)

/-- XRESET (R157). -/
def Bn.fcXreset (b : Bn) : Bn :=
  if b.power.dev = .ready ∨ b.power.dev = .minimal then b.mapTime (fun t => { t with xreset := true }) else b.bit 0x1800 15 true

/-- SYNC (R164, R166, R179): the first bit of the block reached the balls one crossing and 10.0 ns before the boundary of the
next crossing; the noise of the stamp is free (log entry 16). -/
def Bn.fcSync (b : Bn) (arg noise : Nat) : Bn :=
  let missed : Bool := b.time.delayReq.isSome || b.sheets.dreq.isSome || b.time.echo.isSome
  let old := b.rd 0x180F
  let b1 := b.wrQuad 0x1814 (tkNear b.time.t (sx noise 6 - 10240))
  { b1.wrN 0x180F (arg * 2 ^ 12 + 2 ^ 11 + b2n (missed || wbit old 7) * 2 ^ 7) with sheets := { b1.sheets with dreq := none } }.mapTime (fun t =>
    { t with delayReq := some (b.xc + 4), echo := none, t1Mask := 0, stepIn := false })

/-- Whether the argument of a LEASE or RELEASE_ASK names this die (R379). -/
def Bn.named (b : Bn) (arg : Nat) : Bool := bitsOf arg 7 7 == b.unit.bit

/-- A fast code without effect that framing counts (R380). -/
def Bn.fcBad (b : Bn) : Bn := b.bump 0x1C03

/-- Whether the partner's frame of the crossing before, if used, shows that it holds a lease (R396). -/
def Bn.partnerHolds (b : Bn) : Bool := b.xl.usedNow.any frLh

/-- LEASE (R380, R395, R396); ignored in SLN-2 (R47). -/
def Bn.fcLease (b : Bn) (sln2 : Bool) (arg : Nat) : Bn :=
  let d := arg % 128
  let e := b.now + 64 * d
  if sln2 then b
  else if b.named arg = false ∨ d < 2 ∨ 24 < d then b.fcBad
  else if b.lease.role = .active ∧ b.now ≤ b.lease.exp then (b.bump 0x2013).mapLease (fun l => { l with exp := max l.exp e })
  else if b.lease.role = .none ∨ b.lease.role = .minimal ∨ b.lease.role = .failed ∨ b.lease.gaveUp = true ∨
      fld (b.rd 0x2002) 12 8 < d ∨ b.partnerHolds = true then b.bump 0x2014
  else (b.bump 0x2013).mapLease (fun l => { l with exp := e, next := some (.active, b.xc + 1) })

/-- RELEASE_ASK to the ACTIVE unit starts a handover that ends at H = K + 8 (R414); a second one during it has no effect. -/
def Bn.fcRelease (b : Bn) (sln2 : Bool) (arg : Nat) : Bn :=
  if sln2 then b
  else if b.named arg = false then b.fcBad
  else if b.holds = true ∧ (b.lease.ho.any (fun h => decide (b.xc < h.k + 8))) = false then
    b.mapLease (fun l => { l with ho := some ⟨b.xc, b.now + 8, false, 0, false, none⟩ })
  else b

/-- Whether a FULL forme is included in the bank (R261). -/
def Bn.fullIn (b : Bn) : Bool := b.stage.formeIn && b.loader.cls == 0

/-- Whether this unit has staged FV content (R460). -/
def Bn.fvContent (b : Bn) : Bool := !b.stage.fvDies.isEmpty

/-- The bank is armed for a crossing (R451). -/
def Bn.arm (b : Bn) (n tag : Nat) : Bn :=
  let b1 := b.mapStage (fun s => { s with st := .armed, armedN := n, armedTag := tag })
  let b2 := if b.stage.formeIn then b1.mapLoader (fun l => { l with st := .armed }) else b1
  if b.holds then b2.endEntry 4 else b2

/-- IMPRESS_GO (R452). -/
def Bn.fcGo (b : Bn) (arg : Nat) : Bn :=
  let named := decide (b.stage.st = .proved) && arg % 64 == b.stage.goTag
  let full := b.fullIn && b.acq.phase != .idle
  if named = true ∧ full = false ∧ (b.fvContent = false ∨ b.holds = true) then b.arm (b.now + 64) (arg % 64)
  else
    let b1 := b.bump 0x080F
    if named = true ∧ full = true then b1.mapLoader (fun l => { l with goRefused := true }) else b1

/-- CALPULSE: the lease holder passes it to the FV dies (R70, R134). -/
def Bn.fcCalpulse (b : Bn) : Bn := if b.holds then b.mapTime (fun t => { t with calpNext := true }) else b

/-- ACK (R407); no effect in SLN-2. -/
def Bn.fcAck (b : Bn) (sln2 : Bool) (arg : Nat) : Bn :=
  let newest := (b.rd 0x2C1C).toNat
  let back := (newest + 2 ^ 20 - (arg % 256 * 256 + 255)) % 65536
  let p := wof (newest + 2 ^ 20 - back)
  if sln2 = true ∨ b.rd 0x2C1D = 0 then b
  else if older (b.rd 0x2008) p then b.wr 0x2008 p
  else b

/-- WAKE_HOLD (R479): the window covers the next 1 024 crossings; an accepted entry that has not begun is cancelled. -/
def Bn.fcWakeHold (b : Bn) : Bn :=
  let b1 := b.mapPower (fun p => { p with holdEnd := some (b.xc + 1024) })
  if b.power.entry.isSome then
    (b1.bit 0x1000 12 true).mapPower (fun p =>
      { p with entry := none, wakeLatched := false, after := p.after.filter (fun a => a.1 != .entry) })
  else b1

/-- The fast code of a block (R379, R380). `noise` is the free value of a stamp. -/
def Bn.fast (b : Bn) (sln2 : Bool) (code arg noise : Nat) : Bn :=
  match code with
  | 0 => b
  | 1 => b.fcTrig arg
  | 2 => b.fcXreset
  | 3 => b.fcSync arg noise
  | 4 => b.fcLease sln2 arg
  | 5 => b.fcRelease sln2 arg
  | 6 => b.fcGo arg
  | 7 => b.fcCalpulse
  | 8 => b.fcAck sln2 arg
  | 9 => b.fcWakeHold
  | _ => b.fcBad

/-- Downlink activity wakes a dozing unit, or is latched while an entry into DOZE is under way (R381, R481, R487). -/
def Bn.activity (b : Bn) : Bn :=
  match b.power.dev, b.power.entry with
  | .doze, _ =>
    let b1 := if b.power.dozeX.isNone then b.mapPower (fun p => { p with dozeX := some (b.xc + 2) }) else b
    if b.power.dozeD = b.xc then b1.bit 0x1000 16 true else b1
  | _, some e => if e.doze then b.mapPower (fun p => { p with wakeLatched := true }) else b
  | _, none => b

/-- A data block whose CRC is valid (R375-R381). -/
def Bn.validBlock (b : Bn) (sln2 : Bool) (p noise : Nat) : Bn :=
  let ty := bitsOf p 63 60
  let code := bitsOf p 59 56
  let b1 := if ty ≠ 0 ∨ code ≠ 0 then b.activity else b
  let b2 := b1.fast sln2 code (bitsOf p 55 48) noise
  if b.power.dev.takesPackets then b2.frameCmd ty (wof (bitsOf p 47 28)) (wof (bitsOf p 27 8)) else b2

/-- The framing layer handles one block (R368, R377); a block without a valid sync header brings nothing. -/
def Bn.downBlock (b : Bn) (sln2 : Bool) (h : SyncHdr) (payload : BitVec 64) (noise : Nat) : Bn :=
  match h with
  | .invalid => b
  | .control => b.bump 0x1C03
  | .data =>
    if crc8 payload = payload.toNat % 256 then b.validBlock sln2 payload.toNat noise
    else (b.bump 0x1C02).abortPkt

/-- One crossing boundary of a unit. -/
def State.advance (s : State) (u : BnId) : State := s.mapBn u (fun b => b.advance s.variant s.dies)

/-- DOWNLINK_BLOCK (R152, R377): the block is handled, and its boundary opens the next crossing. -/
def execDownlinkBlock (u : BnId) (h : SyncHdr) (payload : BitVec 64) (s : State) : Host.Outcome State Fault Refusal :=
  if s.hasBn u = true ∧ (s.bn u).downOk = true then
    let r := s.free 3
    .next ((r.1.mapBn u (fun b => b.downBlock (s.variant == .sln2) h payload r.2)).advance u)
  else .next s

/-- A fast code as a row of its own: its effect in the crossing in which it is received, without the boundary. -/
def State.fastRow (s : State) (u : BnId) (f : Bn → Bn) : State :=
  if s.hasBn u = true ∧ (s.bn u).downOk = true then s.mapBn u (fun b => f b.activity) else s

/-- TRIG (R314). -/
def execTrig (u : BnId) (arg : BitVec 8) (s : State) : Host.Outcome State Fault Refusal :=
  .next (s.fastRow u (fun b => b.fcTrig arg.toNat))

/-- XRESET (R157). -/
def execXreset (u : BnId) (s : State) : Host.Outcome State Fault Refusal := .next (s.fastRow u Bn.fcXreset)

/-- SYNC (R166). -/
def execSync (u : BnId) (arg : BitVec 8) (s : State) : Host.Outcome State Fault Refusal :=
  let r := s.free 3
  .next (r.1.fastRow u (fun b => b.fcSync arg.toNat r.2))

/-- LEASE (R396). -/
def execLease (u : BnId) (arg : BitVec 8) (s : State) : Host.Outcome State Fault Refusal :=
  .next (s.fastRow u (fun b => b.fcLease (s.variant == .sln2) arg.toNat))

/-- RELEASE_ASK (R414). -/
def execReleaseAsk (u : BnId) (arg : BitVec 8) (s : State) : Host.Outcome State Fault Refusal :=
  .next (s.fastRow u (fun b => b.fcRelease (s.variant == .sln2) arg.toNat))

/-- IMPRESS_GO (R452). -/
def execImpressGo (u : BnId) (arg : BitVec 8) (s : State) : Host.Outcome State Fault Refusal :=
  .next (s.fastRow u (fun b => b.fcGo arg.toNat))

/-- CALPULSE (R70). -/
def execCalpulse (u : BnId) (s : State) : Host.Outcome State Fault Refusal := .next (s.fastRow u Bn.fcCalpulse)

/-- ACK (R407). -/
def execAck (u : BnId) (arg : BitVec 8) (s : State) : Host.Outcome State Fault Refusal :=
  .next (s.fastRow u (fun b => b.fcAck (s.variant == .sln2) arg.toNat))

/-- WAKE_HOLD (R479). -/
def execWakeHold (u : BnId) (s : State) : Host.Outcome State Fault Refusal := .next (s.fastRow u Bn.fcWakeHold)

/-- WAKE_HOLD_END: the window has passed (R479). -/
def execWakeHoldEnd (u : BnId) (s : State) : Host.Outcome State Fault Refusal :=
  let b := s.bn u
  match b.power.holdEnd with
  | some x => .next (if s.hasBn u = true ∧ x < b.xc then s.mapBn u (fun b => b.mapPower (fun p => { p with holdEnd := none })) else s)
  | none => .next s

/-- Whether the time service of a unit runs on crossings (R161, R462). -/
def DevState.crosses : DevState → Bool
  | .boot | .minimal | .ready | .run | .doze => true
  | _ => false

/-- DOWNLINK_LOCK_LOSS: holdover begins, the PLL takes the XO, a pending start is dropped (R161, R464, R477, R581). A run ends at the
next boundary, HOLDOVER_CROSSING. -/
def Bn.lockLoss (b : Bn) : Bn :=
  let b1 := (b.mapTime (fun t => { t with holdover := true })).mapPower (fun p => { p with pllRef := 1 })
  if b.acq.phase = .startPend then (b1.mapAcq (fun a => { a with phase := .idle })).bit 0x2401 2 true else b1

/-- DOWNLINK_LOCK_LOSS (R161). -/
def execDownlinkLockLoss (u : BnId) (s : State) : Host.Outcome State Fault Refusal :=
  let b := s.bn u
  .next (if s.hasBn u = true ∧ b.power.dev.crosses = true ∧ b.dnUsable = false ∧ b.time.holdover = false ∧ b.power.clkWait = false ∧
      (b.power.dev = .boot → 6 ≤ b.boot.step) then
    s.mapBn u Bn.lockLoss
  else s)

/-- HOLDOVER_CROSSING: a boundary that the PLL on the XO places (R161); a run ends at it (R477). -/
def execHoldoverCrossing (u : BnId) (s : State) : Host.Outcome State Fault Refusal :=
  let b := s.bn u
  if s.hasBn u = true ∧ b.power.dev.crosses = true ∧ b.time.holdover = true ∧ b.power.clkWait = false then
    .next ((s.advance u).mapBn u (fun b => if b.power.dev = .run then b.drainEnd else b))
  else .next s

/-- An event of R160, or a time step, empties every window of the rate limits, and alarms of entries without a rate clear
(R529, R531). -/
def ThermSt.emptied (t : ThermSt) : ThermSt := { t with win := [], rate := [], hiRun := [], loRun := [], alarms := [] }

/-- DOWNLINK_RELOCK: the first boundary after relock (R161, R160). -/
def execDownlinkRelock (u : BnId) (s : State) : Host.Outcome State Fault Refusal :=
  let b := s.bn u
  .next (if s.hasBn u = true ∧ b.power.dev.crosses = true ∧ b.time.holdover = true ∧ b.dnUsable = true ∧ b.power.clkWait = false then
    s.mapBn u (fun b =>
      { (b.mapTime (fun t => { t.unset 3 with holdover := false })).mapPower (fun p => { p with pllRef := 2 }) with
        therm := b.therm.emptied })
  else s)

/-- TIME_STEP_EFFECT: the boundary of C (R162, R168, R171). -/
def Bn.stepEffect (b : Bn) : Bn :=
  match b.time.stepPend with
  | some (c, tk) =>
    if b.now = c then
      let inExch : Bool := wbit (b.rd 0x180F) 11 && !wbit (b.rd 0x180F) 10
      { (b.mapTime (fun t => { t with t := tk * 2 ^ 20, step := 2, stepPend := none, stepIn := t.stepIn || inExch })).wrN 0x1825 b.now with
        anchors := { b.anchors with timeEvent := some b.now } }
    else b
  | none => b

/-- The two words of a rate (R178). -/
def rateWords (r : Int) : Word × Word := (wof (ofInt r 24), wof (ofInt r 24 / 2 ^ 20))

/-- A rate in force, kept in the pantry (R163, R489). -/
def Bn.setRate (b : Bn) (r : Int) : Bn :=
  ((b.mapTime (fun t => { t with rate := r })).setPw 8 (rateWords r).1).setPw 9 (rateWords r).2

/-- TIME_RATE_EFFECT: the boundary of C (R163, R171, R155). -/
def Bn.rateEffect (b : Bn) : Bn :=
  match b.time.ratePend with
  | some (c, r) =>
    if b.now = c then
      let b1 := (b.setRate r).mapTime (fun t => { t with ratePend := none })
      { b1 with anchors := { b1.anchors with timeEvent := some b.now } }.scaleOut
    else b
  | none => b

/-- TIME_RATE_EFFECT (R163). -/
def execTimeRateEffect (u : BnId) (s : State) : Host.Outcome State Fault Refusal :=
  .next (if s.hasBn u then s.mapBn u Bn.rateEffect else s)

/-- The snapshot of counter and time at a boundary (R176, R177). -/
def Bn.snapLoad (b : Bn) : Bn :=
  if wbit (b.rd 0x1801) 19 then ((b.wrXc 0x1802 b.now).wrQuad 0x1805 (b.time.t / 2 ^ 20)).bit 0x1801 19 false else b

/-- SNAP: the write of TIME_CTRL.SNAP, or the boundary that loads (R176, R177). -/
def execSnap (u : BnId) (load : Bool) (s : State) : Host.Outcome State Fault Refusal :=
  .next (if load then (if s.hasBn u = true ∧ (s.bn u).power.dev.crosses = true then s.mapBn u Bn.snapLoad else s)
    else s.access u (fun b => (b.bit 0x1801 19 true, .ok)))

/-- A stamp pair as a difference in tk. -/
def Bn.stampDiff (b : Bn) (p q : Nat) : Int := (b.rdQuad p : Int) - b.rdQuad q

/-- The evaluation that a write to T4_Q3 starts (R168). -/
def Bn.evaluate (b : Bn) : Bn :=
  let w := b.rd 0x180F
  if b.time.t1Mask ≠ 15 ∨ wbit w 11 = false ∨ wbit w 10 = false then b.wr 0x180F (setFld w 9 9 0)
  else if b.time.stepIn then b.wr 0x180F (setFld w 9 8 1)
  else
    let fwd := b.stampDiff 0x1814 0x1810
    let back := b.stampDiff 0x181C 0x1818
    let off := (fwd - back - (b.rd 0x180C).toInt).tdiv 2
    let del := (fwd + back).tdiv 2
    ((b.wrDbl 0x1820 (ofInt off 40)).wrDbl 0x1822 (ofInt del 40)).wr 0x180F (setFld w 9 9 1)

/-- A write of T4_Q3 (R151, R168). -/
def Bn.writeT4 (b : Bn) (val : Word) : Bn × Status :=
  if quadOk (b.rd 0x181D) (b.rd 0x181E) val = false then (b, .range) else ((b.wr 0x181F val).evaluate, .ok)

/-- EXCHANGE_EVALUATION (R168). -/
def execExchangeEvaluation (u : BnId) (val : Word) (s : State) : Host.Outcome State Fault Refusal :=
  .next (s.access u (fun b => b.writeT4 val))

end Sys2Proof.Machine
end

