-- ==== Sys2Proof/Machine/Lanes.lean ====
section
/-! DEFINITION. The serial lanes (R366-R373): the detectors, block lock, training; the test patterns and their checker
(R388-R392). -/

namespace Sys2Proof.Machine

/-- The domain of a lane (R470). -/
def laneDom (l : Lane) : Nat := 152 + l.val

/-- The LCFG word of a lane. -/
def lCfg (l : Lane) : Nat := 0x1C11 + 8 * l.val

/-- The LINJ word of a lane. -/
def lInj (l : Lane) : Nat := 0x1C12 + 8 * l.val

/-- Whether the variant has a lane (R366). -/
def laneHere (sln2 : Bool) (l : Lane) : Bool := !(sln2 && decide (5 ≤ l.val))

/-- LOL of a receive lane clears once the CDR and block lock are back (R373). -/
def Bn.lolDown (b : Bn) (l : Lane) : Bn :=
  let x := b.lane l
  if x.cdrLock = true ∧ x.blockLock = true ∧ x.los = false then b.mapLane l (fun x => { x with lol := false }) else b

/-- The squelch of a receive lane (R368, R373). -/
def Bn.losEvent (b : Bn) (l : Lane) (on : Bool) : Bn :=
  let x := b.lane l
  if on then
    if x.los then b
    else (((b.mapLane l (fun x => { x with los := true, blockLock := false, goodRun := 0, recent := [] })).bump
      (0x1C15 + 8 * l.val)).bit (lStat l) 14 true).lolUp l
  else b.mapLane l (fun x => { x with los := false })

/-- LOS (R373): receive lanes alone have the detector. -/
def execLos (u : BnId) (l : Lane) (asserted : Bool) (s : State) : Host.Outcome State Fault Refusal :=
  .next (if s.hasBn u = true ∧ laneRx l = true ∧ laneHere (s.variant == .sln2) l = true ∧ (s.bn u).domOn (laneDom l) = true then
    s.mapBn u (fun b => b.losEvent l asserted)
  else s)

/-- A transmit lane that is out of electrical idle sends a training burst from the next boundary on (R371, R373, R389). -/
def Bn.burst (b : Bn) (l : Lane) : Bn :=
  match (b.lane l).st with
  | .idle => b
  | _ => b.mapLane l (fun x => { x with st := .training, trainEnd := b.xc + 1 + burstXc l, fault := true })

/-- CDR or serializer lock is lost or regained (R373). -/
def Bn.lolEvent (b : Bn) (l : Lane) (lost : Bool) : Bn :=
  if laneRx l then
    if lost then (b.mapLane l (fun x => { x with cdrLock := false })).lolUp l
    else (b.mapLane l (fun x => { x with cdrLock := true })).lolDown l
  else if lost then (b.mapLane l (fun x => { x with fault := true })).lolUp l
  else if (b.lane l).lol then (b.mapLane l (fun x => { x with lol := false })).burst l
  else b

/-- LOL (R373). -/
def execLol (u : BnId) (l : Lane) (lost : Bool) (s : State) : Host.Outcome State Fault Refusal :=
  .next (if s.hasBn u = true ∧ laneHere (s.variant == .sln2) l = true ∧ (s.bn u).domOn (laneDom l) = true then
    s.mapBn u (fun b => b.lolEvent l lost)
  else s)

/-- The sync header of one received block (R368). -/
def Bn.blockEvent (b : Bn) (l : Lane) (valid : Bool) : Bn :=
  let x := b.lane l
  let run := if valid then min 64 (x.goodRun + 1) else 0
  let rec_ := (valid :: x.recent).take 64
  let b1 := b.mapLane l (fun x => { x with goodRun := run, recent := rec_ })
  if x.los then b
  else if x.blockLock = false ∧ 64 ≤ run then (b1.mapLane l (fun x => { x with blockLock := true })).lolDown l
  else if x.blockLock = true ∧ 16 ≤ (rec_.filter (fun v => !v)).length then
    (b1.mapLane l (fun x => { x with blockLock := false, goodRun := 0, recent := [] })).lolUp l
  else b1

/-- BLOCK_LOCK (R368). -/
def execBlockLock (u : BnId) (l : Lane) (valid : Bool) (s : State) : Host.Outcome State Fault Refusal :=
  .next (if s.hasBn u = true ∧ laneRx l = true ∧ laneHere (s.variant == .sln2) l = true ∧ (s.bn u).domOn (laneDom l) = true then
    s.mapBn u (fun b => b.blockEvent l valid)
  else s)

/-- A training burst is over: the lane carries content (R371). -/
def Bn.trained (b : Bn) (l : Lane) : Bn :=
  let x := b.lane l
  if x.st = .training ∧ x.trainEnd ≤ b.xc then
    b.mapLane l (fun x => { x with st := if wbit (b.rd (lCfg l)) 19 then .prbs else .active })
  else b

/-- TRAINING_BURST_END (R371). -/
def execTrainingBurstEnd (u : BnId) (l : Lane) (s : State) : Host.Outcome State Fault Refusal :=
  .next (if s.hasBn u then s.mapBn u (fun b => b.trained l) else s)

/-- Whether a test on this lane is allowed in the present state (R389). -/
def Bn.testAllowed (b : Bn) : Bool := (b.power.dev == .ready || b.power.dev == .minimal) && b.acq.phase == .idle

/-- What a lane does when its test ends (R389): a transmit lane sends a training burst; a receive lane hears the line again. -/
def Bn.testEnd (b : Bn) (l : Lane) : Bn :=
  if (b.lane l).st = .prbs then
    (if laneRx l then b.mapLane l (fun x => { x with st := .idle, inject := 0 }) else (b.mapLane l (fun x => { x with inject := 0 })).burst l)
  else b.mapLane l (fun x => { x with inject := 0 })

/-- A write of LCFG (R388-R392): what it may, what it starts and ends. -/
def Bn.writeLcfg (b : Bn) (l : Lane) (val : Word) : Bn × Status :=
  let old := b.rd (lCfg l)
  let eiHere : Bool := decide (1 ≤ l.val) && decide (l.val ≤ 3) || l.val == 5
  let new := merge old val (if eiHere then 0xFFFFF else 0xFBFFF)
  let gen := wbit new 19
  let chk := wbit new 18
  let loop := wbit new 15
  let dur := fld new 13 8
  let line : Bool := laneRx l && chk && !loop
  let drives : Bool := !laneRx l && gen
  if (drives || line) = true ∧ b.testAllowed = false then (b, .denied)
  else if ((l.val == 0 && gen) || (l.val == 4 && line)) = true ∧ dur = 0 then (b, .range)
  else
    let b1 := b.wrKeep (lCfg l) new
    let b2 := if wbit old 18 = false ∧ chk = true then
        (b1.wrDbl (0x1C13 + 8 * l.val) 0).mapLane l (fun x => { x with chkLock := false }) else b1
    let b3 := b2.mapLane l (fun x => { x with
      prbsEnd := if (gen || chk) = true ∧ dur ≠ 0 then some (b.xc + dur * 1024) else none
      chkLock := x.chkLock && chk })
    let b4 := if drives = true ∧ (b3.lane l).st ≠ .idle ∨ line = true then b3.mapLane l (fun x => { x with st := .prbs })
      else b3.testEnd l
    (b4, .ok)

/-- An access to a lane's words; lanes 5 and 6 of an SLN-2 do not exist (R392). -/
def State.laneAccess (s : State) (u : BnId) (l : Lane) (f : Bn → Bn × Status) : State :=
  s.access u (fun b => if laneHere (s.variant == .sln2) l then f b else (b, .badAddress))

/-- GEN_EN (R389): LCFG written with GEN_EN set. -/
def execGenEn (u : BnId) (l : Lane) (val : Word) (s : State) : Host.Outcome State Fault Refusal :=
  .next (s.laneAccess u l (fun b => b.writeLcfg l (setFld val 19 19 1)))

/-- CHK_EN (R390): LCFG written with CHK_EN set. -/
def execChkEn (u : BnId) (l : Lane) (val : Word) (s : State) : Host.Outcome State Fault Refusal :=
  .next (s.laneAccess u l (fun b => b.writeLcfg l (setFld val 18 18 1)))

/-- The end of DUR (R389). -/
def Bn.durEnd (b : Bn) (l : Lane) : Bn :=
  match (b.lane l).prbsEnd with
  | some x =>
    if x ≤ b.xc then
      ((b.wr (lCfg l) (setFld (b.rd (lCfg l)) 19 18 0)).mapLane l (fun x => { x with prbsEnd := none, chkLock := false })).testEnd l
    else b
  | none => b

/-- PRBS_DUR_END (R389). -/
def execPrbsDurEnd (u : BnId) (l : Lane) (s : State) : Host.Outcome State Fault Refusal :=
  .next (if s.hasBn u then s.mapBn u (fun b => b.durEnd l) else s)

/-- The ones of a number of `n` bits. -/
def ones (v : Nat) : Nat → Nat
  | 0 => 0
  | n + 1 => b2n (v.testBit n) + ones v n

/-- The checker compares one aligned word of 64 bits (R390, R391): `mism` are the bits that the line turned, and injected bits
come first, bit 63 first. -/
def Bn.check64 (b : Bn) (l : Lane) (mism : BitVec 64) : Bn :=
  let c := b.rd (lCfg l)
  let loop := wbit c 15
  let x := b.lane l
  if wbit c 18 = false ∨ (laneRx l = false ∧ loop = false) then b
  else
    let k := if loop = true ∧ wbit c 19 = true then min x.inject 64 else 0
    let diff := mism.toNat ^^^ ((2 ^ k - 1) * 2 ^ (64 - k))
    let n := ones diff 64
    let b1 := b.mapLane l (fun x => { x with inject := x.inject - k })
    if x.chkLock = false then (if n = 0 then b1.mapLane l (fun x => { x with chkLock := true }) else b1)
    else
      let off := 0x1C13 + 8 * l.val
      let b2 := b1.wrDbl off (min ((b.rd off).toNat * 2 ^ 20 + (b.rd (off + 1)).toNat + n) 0xFFFFFFFF)
      if 32 ≤ n then b2.mapLane l (fun x => { x with chkLock := false }) else b2

/-- CHECKER_LOCK (R390). -/
def execCheckerLock (u : BnId) (l : Lane) (mism : BitVec 64) (s : State) : Host.Outcome State Fault Refusal :=
  .next (if s.hasBn u = true ∧ laneHere (s.variant == .sln2) l = true then s.mapBn u (fun b => b.check64 l mism) else s)

/-- A write of LINJ (R391): the injected bits wait at the generator of a lane whose checker reads it. -/
def Bn.writeLinj (b : Bn) (l : Lane) (val : Word) : Bn × Status :=
  let one := wbit val 19
  let burst := wbit val 18
  let len := fld val 7 0
  if (one && burst) = true ∨ (burst = true ∧ len = 0) then (b, .range)
  else if wbit (b.rd (lCfg l)) 19 = false then (b, .denied)
  else
    let k := if one then 1 else if burst then len else 0
    let seen : Bool := wbit (b.rd (lCfg l)) 18 && wbit (b.rd (lCfg l)) 15
    ((b.wrN (lInj l) len).mapLane l (fun x => { x with inject := if seen then x.inject + k else 0 }), .ok)

/-- INJ_ONE (R391). -/
def execInjOne (u : BnId) (l : Lane) (both : Bool) (s : State) : Host.Outcome State Fault Refusal :=
  .next (s.laneAccess u l (fun b => b.writeLinj l (wof (2 ^ 19 + b2n both * 2 ^ 18 + fld (b.rd (lInj l)) 7 0))))

/-- INJ_BURST (R391). -/
def execInjBurst (u : BnId) (l : Lane) (len : BitVec 8) (s : State) : Host.Outcome State Fault Refusal :=
  .next (s.laneAccess u l (fun b => b.writeLinj l (wof (2 ^ 18 + len.toNat))))

end Sys2Proof.Machine
end

