-- ==== Sys2Proof/Machine/Twin.lean ====
section
/-! DEFINITION. The staged view, the twin set and its CRCs (R447, R448, R455); the transfer set of shadow entry and of
STATE_SAVE and STATE_RESTORE (R417, R443). -/

namespace Sys2Proof.Machine

/-- The domain in which the words of a BN block stand, where it is not one of those that run whenever packets are executed. -/
def blockDom (off : Nat) : Option Nat := if 0x3000 ≤ off ∧ off < 0x3400 then some 167 else none

/-- Whether the block of a word is off, so that its staged entries are held (R455). -/
def Bn.asleep (b : Bn) (off : Nat) : Bool :=
  match blockDom off with
  | some d => (b.dom d).power == .off || (b.dom d).power == .retained
  | none => false

/-- Whether the block of a word has failed (R456). -/
def Bn.failedBlock (b : Bn) (off : Nat) : Bool :=
  match blockDom off with
  | some d => (b.dom d).power == .failed
  | none => false

/-- The staged entries held for sleeping blocks, in ascending offset (R448, R455). -/
def Bn.heldEntries (b : Bn) : List (Nat × Word) :=
  (b.stage.words.filter (fun p => b.asleep p.1)).foldl (fun l p => insertBy (fun a c => a.1 < c.1) p l) []

/-- The ST bits of a word: the whole Q_CFG words of queues 34 and 36-47 are RO (R307). -/
def stMask (off : Nat) : Nat :=
  if 0x2C40 ≤ off ∧ off < 0x2D40 ∧ off % 4 = 0 ∧ ((off - 0x2C40) / 4 = 34 ∨ (36 ≤ (off - 0x2C40) / 4 ∧ (off - 0x2C40) / 4 < 48)) then 0
  else match rowOf bnMap off with
    | some r => r.st
    | none => 0

/-- The offsets of the words that hold an ST field, ascending (R448). -/
def stOffsets : List Nat :=
  ((bnMap.filter (fun r => r.st != 0)).flatMap (fun r => (List.range r.count).map (fun i => r.base + r.stride * i))).foldl
    (fun l o => if stMask o = 0 then l else insertBy (fun a c => a < c) o l) []

/-- The bits of the twin set, from a view of the words, a header CRC, the table CRCs and the held entries (R448). -/
def twinBits (rd : Nat → Word) (hdr : Nat) (tbl : Nat → Nat) (held : List (Nat × Word)) : List Bool :=
  wordBits (stOffsets.map (fun o => rd o &&& wof (stMask o))) ++ bitsMsb hdr 32 ++
    (List.range 128).flatMap (fun n => bitsMsb (tbl n) 32) ++ held.flatMap (fun p => wordBits [wof p.1, p.2])

/-- Whether an image is loaded in full (R448). -/
def Loader.isLoaded (l : Loader) : Bool := l.st == .loaded || l.st == .proved || l.st == .armed

/-- The header CRC of the staged image, 0 when none is loaded (R448). -/
def Bn.stagedHdrCrc (b : Bn) : Nat := if b.loader.isLoaded then b.loader.hdrCrc else 0

/-- The header CRC of the live forme (R421, R448). -/
def Bn.liveHdrCrc (b : Bn) : Nat := if b.loader.live then (dbl (b.rd 0x405E) (b.rd 0x405F)).toNat % 2 ^ 32 else 0

/-- A word as the twin set takes it (R448): in SLN-2 the ST words of the LEASE block read 0 (R426). -/
def twinWord (sln2 : Bool) (rd : Nat → Word) (off : Nat) : Word :=
  if sln2 = true ∧ 0x2000 ≤ off ∧ off < 0x2400 then 0 else rd off

/-- STAGED_CRC (R448). -/
def Bn.stagedCrc (b : Bn) (sln2 : Bool) : Nat :=
  crc32 (twinBits (twinWord sln2 b.stagedRd) b.stagedHdrCrc (fun n => mget b.stage.tables n 0) b.heldEntries)

/-- LIVE_CRC: the same over live values (R448); an entry that is held has no live value. -/
def Bn.liveCrc (b : Bn) (sln2 : Bool) : Nat :=
  crc32 (twinBits (twinWord sln2 b.rd) b.liveHdrCrc (fun n => mget b.stage.tables (128 + n) 0) [])

/-- Whether the staged bank holds changes (R384). -/
def Bn.stagedAny (b : Bn) : Bool := b.stage.st != .empty || b.loader.isLoaded

/-- The live use mask, ascending. -/
def Bn.useMask (b : Bn) : List Nat := (List.range 128).filter b.used

/-- Whether the transfer set carries a queue's content (R417). -/
def Bn.carried (b : Bn) (q : Nat) : Bool := !b.reader q && q != 34

/-- The doubles that a queue holds, from head to tail. -/
def Bn.queueDoubles (b : Bn) (q : Nat) : List Dbl :=
  let x := b.queue q
  (x.cells.flatMap (fun c => (b.readHalf c.addr false).2 :: (if c.full then [(b.readHalf c.addr true).2] else []))).drop (b2n x.headHalf)

/-- The double that describes a queue (R417). -/
def Bn.queueInfo (b : Bn) (q : Nat) : Dbl :=
  let x := b.queue q
  if b.carried q = false then 0
  else dbl (wof (b2n x.headHalf * 2 ^ 19 + (b.queueDoubles q).length))
    (wof (b2n (decide (0 < x.openLen)) * 2 ^ 19 + b2n x.flushed * 2 ^ 18 + x.openLen))

/-- The 22 doubles of a compositor (R417). -/
def Comp.doubles (c : Comp) : List Dbl :=
  (List.range 16).map (fun k => dbl (c.rg (2 * k)) (c.rg (2 * k + 1))) ++
    [dbl (wof (c.a0.toNat / 2 ^ 28)) (wof (c.a0.toNat / 2 ^ 8)),
     dbl (wof (c.a0.toNat % 2 ^ 8 * 2 ^ 12 + c.a1.toNat / 2 ^ 36)) (wof (c.a1.toNat / 2 ^ 16)),
     dbl (wof (c.a1.toNat % 2 ^ 16 * 16 + c.p.toNat)) 0, c.xin, c.rinUp, c.rinDn]

/-- A compositor with the state that 22 doubles describe (R443). -/
def Comp.ofDoubles (c : Comp) (d : Nat → Dbl) : Comp :=
  let c1 := (List.range 16).foldl (fun c k => (c.setRg (2 * k) (dhi (d k))).setRg (2 * k + 1) (dlo (d k))) c
  { c1 with
    a0 := BitVec.ofNat 48 ((d 16).toNat * 2 ^ 8 + fld (dhi (d 17)) 19 12)
    a1 := BitVec.ofNat 48 ((fld (dhi (d 17)) 11 0) * 2 ^ 36 + (dlo (d 17)).toNat * 2 ^ 16 + fld (dhi (d 18)) 19 4)
    p := BitVec.ofNat 4 (fld (dhi (d 18)) 3 0)
    xin := d 19
    rinUp := d 20
    rinDn := d 21
    flight := [] }

/-- The carried content of the queues, queue by queue (R417). -/
def Bn.queueContent (b : Bn) : List Dbl := ((List.range 64).filter b.carried).flatMap b.queueDoubles

/-- The number of doubles of the transfer set (R417). -/
def Bn.setSize (b : Bn) : Nat := 66 + 22 * b.useMask.length + b.queueContent.length

/-- The transfer set (R417). -/
def Bn.transferSet (b : Bn) : List Dbl :=
  [dbl (wof b.setSize) (b.rd 0x2008), dbl (b.rd 0x2009) (b.rd 0x2C1C)] ++ (List.range 64).map b.queueInfo ++
    b.useMask.flatMap (fun n => (b.comp n).doubles) ++ b.queueContent

/-- Cells for the content of a queue, filled from head to tail: `ds` two to a cell. -/
def Bn.fillCells (b : Bn) (acc : List QCell) : Nat → List Dbl → Bn × List QCell
  | 0, _ => (b, acc)
  | _ + 1, [] => (b, acc)
  | k + 1, d :: t =>
    match b.alloc with
    | (b1, none) => (b1, acc)
    | (b1, some a) =>
      let e := t.headD 0
      let full := !t.isEmpty
      (b1.setCell a ⟨d, e, 7, 0⟩).fillCells (acc ++ [⟨a, false, false, full, 0, 0⟩]) k t.tail

/-- A queue rebuilt from its description and its doubles (R417, R443): occupancy (HALF + doubles held + 1) div 2 cells of the
unit's own choice (R292). -/
def Bn.rebuild (b : Bn) (q : Nat) (info : Dbl) (ds : List Dbl) : Bn :=
  let half := wbit (dhi info) 19
  let opened := wbit (dlo info) 19
  let b1 := (b.queue q).cells.foldl (fun b c => b.release c.addr) b
  let all := if half then 0 :: ds else ds
  let r := b1.fillCells [] (all.length + 1) all
  r.1.setQueue q { Queue.empty with
    cells := r.2, headHalf := half && !r.2.isEmpty, tailReg := all.getLastD 0
    openLen := if opened then fld (dlo info) 4 0 else 0, flushed := wbit (dlo info) 18 }

/-- How many doubles the queues of a description hold. -/
def heldOf (d : Nat → Dbl) : Nat := (List.range 64).foldl (fun a q => a + fld (dhi (d (2 + q))) 18 0) 0

/-- The unit with the state of a transfer set (R417, R443): compositors of the live use mask, then the carried queues. -/
def Bn.writeSet (b : Bn) (d : Nat → Dbl) : Bn :=
  let mask := b.useMask
  let b1 := mask.zipIdx.foldl (fun b p => b.setComp p.1 ((b.comp p.1).ofDoubles (fun i => d (66 + 22 * p.2 + i)))) b
  ((List.range 64).filter b.carried).foldl (fun (x : Bn × Nat) q =>
    let k := fld (dhi (d (2 + q))) 18 0
    (x.1.rebuild q (d (2 + q)) ((List.range k).map (fun i => d (x.2 + i))), x.2 + k)) (b1, 66 + 22 * mask.length) |>.1

end Sys2Proof.Machine
end

