-- ==== Sys2Proof/Machine/Boot.lean ====
section
/-! DEFINITION. The boot of a BN die (R541-R556): the pantry check and the boot records, the steps of the power-up sequence,
resets and restarts, power-good and wake failures (R472, R475), the watchdog and the deadline. -/

namespace Sys2Proof.Machine

/-- Change the boot state. -/
def Bn.mapBoot (b : Bn) (f : Boot → Boot) : Bn := { b with boot := f b.boot }

/-- Change the session. -/
def Bn.mapSess (b : Bn) (f : Session → Session) : Bn := { b with sess := f b.sess }

/-- The value of a pantry word in a pantry without content: the reset value of its field (R488, R544); the entries of absent FV
dies have EN = 0 (R524). -/
def pantryReset (v : Variant) (w : Nat) : Word :=
  if 0x0066 ≤ w ∧ w < 0x008A ∧ (w - 0x0060) % 6 = 0 ∧ !((idx 6).any (fun d => d.val + 1 == (w - 0x0060) / 6 && v.hasFv d)) then
    setFld (pantryDef w) 19 19 0
  else pantryDef w

/-- The words of one FV die or of the BN die that differ from the plain defaults when the pantry is empty. -/
def pantryFresh (v : Variant) : SMap Word :=
  (List.range 0x200).foldl (fun m w => mput m w (pantryReset v w) (pantryDef w)) []

/-- The pantry holds nothing (R544). -/
def Bn.emptyPantry (b : Bn) (v : Variant) : Bn :=
  { b with pantry := { b.pantry with words := pantryFresh v, flips := [], wasEmpty := true } }

/-- The 80 data bits of a pantry codeword. -/
def Bn.pantryData (b : Bn) (c : Nat) : Nat := (List.range 4).foldl (fun a i => a * 2 ^ 20 + (b.pw (4 * c + i)).toNat) 0

/-- A codeword that is damaged: its words read as their reset values, and one that holds lockout state starts the full lockout of both
levels (R491). -/
def Bn.pantryLost (b : Bn) (v : Variant) (c : Nat) : Bn :=
  let b1 := (List.range 4).foldl (fun b i => b.setPw (4 * c + i) (pantryReset v (4 * c + i))) b
  let b2 := if c = 3 then (b1.setPw 0x000E (wof (64 * 2 ^ 7 + 64))).mapSess (fun s => { s with lockA := true, lockB := true }) else b1
  (b2.bit 0x100A 19 true).bump 0x100C

/-- What a read of a pantry codeword does when its code finds this (R491): a corrected one is written back. -/
def Bn.pantryFound (b : Bn) (v : Variant) (c : Nat) (o : Outcome4) : Bn :=
  match o with
  | .clean => b
  | .corrected => { b with pantry := { b.pantry with flips := mdel b.pantry.flips c } }.bump 0x100B
  | _ => b.pantryLost v c

/-- A read of one pantry codeword (R491). -/
def Bn.pantryRead (b : Bn) (v : Variant) (c : Nat) : Bn :=
  b.pantryFound v c (rsRead (addrPantry c) (b.pantryData c) (mget b.pantry.flips c 0)).1

/-- Whether a codeword can be read. -/
def Outcome4.readable (o : Outcome4) : Bool :=
  match o with
  | .clean => true
  | .corrected => true
  | _ => false

/-- Whether the codeword of the pantry's mark can be read (R544). -/
def Bn.pantryMark (b : Bn) : Bool := (rsRead (addrPantry 0) (b.pantryData 0) (mget b.pantry.flips 0 0)).1.readable

/-- The pantry check of step 2 (R544). -/
def Bn.pantryCheck (b : Bn) (v : Variant) : Bn :=
  let b1 := (b.pantry.flips.map (·.1)).foldl (fun b c => b.pantryRead v c) b
  if b.pantryMark = false ∨ b1.pw 0 ≠ 0x00A51#20 then b1.emptyPantry v else b1

/-- The BN words of the retained set (R488). -/
def bnRetained : List Nat :=
  [0x180C, 0x2001, 0x0401, 0x0C02] ++ (List.range 7).map (fun l => 0x1C11 + 8 * l) ++ (List.range 64).map (0x2440 + ·) ++
    [0x3002, 0x3003, 0x3004] ++ (List.range 64).flatMap (fun e => (List.range 6).map (fun i => 0x3100 + 8 * e + i))

/-- The retained BN fields and the rate word come back from the pantry (R486, R490). -/
def Bn.restoreRetained (b : Bn) : Bn :=
  let b1 := bnRetained.foldl (fun b off =>
    match pantryBn off, rowOf bnMap off with
    | some w, some r => b.wr off (merge (bnDef off) (b.pw w) r.ao)
    | _, _ => b) b
  { b1 with time := { b1.time with rate := sx ((b1.pw 9).toNat % 16 * 2 ^ 20 + (b1.pw 8).toNat) 24 } }

/-- FAIL_RUN (R544). -/
def Bn.failRun (b : Bn) : Nat := fld (b.pw 2) 1 0

/-- Where the open boot record stands in the pantry (R553). -/
def Bn.recBase (b : Bn) : Nat := 0x0200 + 32 * fld (b.pw 4) 2 0

/-- A word of the open boot record. -/
def Bn.recAt (b : Bn) (k : Nat) : Word := b.pw (b.recBase + k)

/-- Write a word of the open boot record. -/
def Bn.setRec (b : Bn) (k : Nat) (v : Word) : Bn := b.setPw (b.recBase + k) v

/-- r1 of the open record follows the boot state (R553). -/
def Bn.syncRec (b : Bn) : Bn :=
  let x := b.boot
  b.setRec 1 (wof (x.cause * 2 ^ 16 + x.outcome * 2 ^ 12 + x.step * 2 ^ 8 + x.straps.bootsel.toNat * 2 ^ 6 + x.straps.posId.toNat))

/-- A step of the boot begins. -/
def Bn.stepTo (b : Bn) (k : Nat) : Bn := (b.mapBoot (fun x => { x with step := k })).syncRec

/-- Open a boot record: the boot counter, an empty record, its start cause (R544, R553). -/
def Bn.openRecord (b : Bn) (v : Variant) : Bn :=
  let first := b.pw 1 = 0
  let b1 := b.setPw 1 (satAdd (b.pw 1) 1 20)
  let b2 := b1.setPw 4 (if first then 0 else wof ((fld (b.pw 4) 2 0 + 1) % 8))
  let b3 := (List.range 32).foldl (fun b k => b.setRec k 0) b2
  (((b3.setRec 0 (b3.pw 1)).setRec 5 (wof (((idx 6).filter v.hasFv).foldl (fun a d => a + 2 ^ d.val) 0))).setRec 8 Config.romVer).syncRec

/-- The outcome of a boot is decided once (R545). `n` is the time from READY in ms, a free value. -/
def Bn.decided (b : Bn) (o n : Nat) : Bn :=
  if b.boot.outcome ≠ 0 ∨ b.boot.step < 2 then b
  else
    let ready := b.power.dev = .ready ∨ b.power.dev = .run ∨ b.power.dev = .doze
    let b1 := (b.mapBoot (fun x => { x with outcome := o, deadlineRun := false })).syncRec
    if ready then b1.setRec 4 (wof n) else b1

/-- A failure adds 1 to FAIL_RUN, which stops at 3 (R545). -/
def Bn.countFail (b : Bn) : Bn := b.setPw 2 (wof (min 3 (b.failRun + 1)))

/-- SUCCESS: a FULL forme becomes live (R545). -/
def Bn.success (b : Bn) (n : Nat) : Bn := if b.boot.outcome = 0 then (b.decided 1 n).setPw 2 0 else b

/-- The die as a reset leaves it: the always-on logic, the pantry and OTP stay (R20, R459, R484, R555); WD_CNT counts over
the resets it causes (R547). -/
def Bn.cleared (b : Bn) (st : Straps) (unset : Nat) : Bn :=
  let d := Bn.dark b.unit
  ({ d with
    pantry := b.pantry
    sess := { d.sess with lockA := b.sess.lockA, lockB := b.sess.lockB, slotsA := b.sess.slotsA, slotsB := b.sess.slotsB }
    power := { d.power with dev := .boot, xoOk := b.power.xoOk }
    boot := { d.boot with straps := st, thermOtp := b.boot.thermOtp, health := b.boot.health }
    time := { d.time with xc := b.time.xc, unsetCause := unset } }).wr 0x0C04 (b.rd 0x0C04)

/-- Whether a boot enters MINIMAL (R548, R552). -/
def Bn.wantsMinimal (b : Bn) : Bool := b.boot.straps.bootsel == 1 || b.boot.straps.bootsel == 2 || b.failRun == 3

/-- The start cause THERMAL: the first shut-down bit whose partner is not programmed is reported (R555). -/
def Bn.thermCause (b : Bn) (cause : Nat) : Bn × Nat :=
  match (List.range 16).find? (fun i => b.boot.thermOtp.testBit (2 * i) && !b.boot.thermOtp.testBit (2 * i + 1)) with
  | some i => (b.mapBoot (fun x => { x with thermOtp := x.thermOtp + 2 ^ (2 * i + 1) }), 6)
  | none => (b, cause)

/-- The galley checks of step 4, on the unit and its record (R305-R307, R553), with `f` checkers that fail: whether they passed, and
the failure code. -/
def Bn.step4With (b : Bn) (f : Nat) : Bn × Option Nat :=
  let h := b.boot.health
  let mem : Bool := h.memOk && f == 0
  let w := wof (b2n (f == 0) * 2 ^ 19 + b2n mem * 2 ^ 18 + (if f = 0 then min h.memCorr 4095 else 0))
  let b1 := ((b.wr 0x2C01 w).setRec 6 w).setRec 7 (wof (min f 255))
  (b1, if f ≠ 0 then some 6 else if mem then none else some 7)

/-- Step 4 of the boot: the checkers as their vectors and the die's health find them. -/
def Bn.step4 (b : Bn) : Bn × Option Nat := b.step4With (checkerFails + b.boot.health.checkerFails)

/-- Step 2 of the boot: the pantry check, the record, the retained values, and whether MINIMAL is entered (R543, R544, R548, R555). -/
def Bn.bootStep2 (b : Bn) (v : Variant) (cause : Nat) : Bn :=
  let r := (b.pantryCheck v).thermCause cause
  let b2 := ((r.1.mapBoot (fun x => { x with step := 2, cause := r.2 })).openRecord v).restoreRetained.domUp 169
  if b2.wantsMinimal then (b2.mapBoot (fun x => { x with minimal := true, outcome := 2 })).syncRec else b2

/-- Step 3 and the domains of step 4 (R464, R543). -/
def Bn.bootStep3 (b : Bn) : Bn :=
  (((List.range 16).map (136 + ·)) ++ [165]).foldl Bn.domUp
    ((((b.stepTo 3).mapPower (fun p => { p with xoOk := true, ctrlIn := 1 })).bumpN 0x1406 2 20).stepTo 4)

/-- Step 5 begins: the receiver of lane 4 comes up (R543). -/
def Bn.bootStep5 (b : Bn) : Bn := (b.stepTo 5).domUp 156

/-- What follows the checks of step 4 (R543): a failure restarts the die (R548), in a boot that enters MINIMAL it does not (R551). -/
def Bn.bootAfter4 (b : Bn) (failed : Option Nat) (again : Bn → Bn) : Bn :=
  match failed with
  | some code => if b.boot.minimal then b.bootStep5 else again ((b.decided code 0).countFail.cleared b.boot.straps 1)
  | none => b.bootStep5

/-- The boot from step 1 up to the wait for the downlink, `again` what a restart does. -/
def Bn.bootTry (b : Bn) (v : Variant) (cause : Nat) (again : Bn → Bn) : Bn :=
  if b.boot.straps.bootsel = 3 then b.mapBoot (fun x => { x with step := 1, cause := cause })
  else
    let r := (b.bootStep2 v cause).bootStep3.step4
    r.1.bootAfter4 r.2 again

/-- The boot with its restarts. -/
def Bn.bootRun (b : Bn) (v : Variant) (cause : Nat) : Nat → Bn
  | 0 => b
  | k + 1 => b.bootTry v cause (fun x => x.bootRun v 5 k)

/-- Boot a die after a reset. -/
def Bn.bootFrom (b : Bn) (v : Variant) (st : Straps) (cause : Nat) : Bn :=
  (b.cleared st (if cause = 0 then 0 else 1)).bootRun v cause 5

/-- A reset of the die that is no failure: an open outcome ends as INTERRUPTED (R545). -/
def Bn.interrupted (b : Bn) (v : Variant) (st : Straps) (cause n : Nat) : Bn := (b.decided 8 n).bootFrom v st cause

/-- A failure: the outcome, the count, the restart (R545, R548). -/
def Bn.failure (b : Bn) (v : Variant) (o cause n : Nat) : Bn := (b.decided o n).countFail.bootFrom v b.boot.straps cause

/-- The device states in which a reset of the die acts (R477, R542). -/
def DevState.resets : DevState → Bool
  | .off | .shutdown => false
  | _ => true

/-- POWER_UP: VAO and the other rails applied (R477, R543, R544). -/
def execPowerUp (u : BnId) (st : Straps) (s : State) : Host.Outcome State Fault Refusal :=
  .next (if s.hasBn u = true ∧ (s.bn u).power.dev = .off then
    s.mapBn u (fun b => (b.emptyPantry s.variant).bootFrom s.variant st 0)
  else s)

/-- A reset of a unit from outside (R542, R567). -/
def State.outerReset (s : State) (u : BnId) (st : Straps) : State :=
  if s.hasBn u = true ∧ (s.bn u).power.dev.resets = true then
    let r := s.free 4
    r.1.mapBn u (fun b => b.interrupted s.variant st 1 r.2)
  else s

/-- PIN_RESET (R542). -/
def execPinReset (u : BnId) (st : Straps) (s : State) : Host.Outcome State Fault Refusal := .next (s.outerReset u st)

/-- SUPPLY_SUPERVISOR_RESET: as RESET_x_N does, with the straps as they stand (R567). -/
def execSupplySupervisorReset (u : BnId) (s : State) : Host.Outcome State Fault Refusal :=
  .next (s.outerReset u (s.bn u).boot.straps)

/-- VAO_REMOVAL: the die is OFF and its pantry empty; OTP stays (R477, R544, R552). -/
def execVaoRemoval (u : BnId) (s : State) : Host.Outcome State Fault Refusal :=
  .next (if s.hasBn u then
    s.mapBn u (fun b =>
      let d := Bn.dark u
      { d with
        sess := { d.sess with slotsA := b.sess.slotsA, slotsB := b.sess.slotsB }
        boot := { d.boot with thermOtp := b.boot.thermOtp, health := b.boot.health }
        time := { d.time with xc := b.time.xc } })
  else s)

/-- A failure outcome of a unit, with its restart. -/
def State.failUnit (s : State) (u : BnId) (o cause : Nat) : State :=
  let r := s.free 4
  r.1.mapBn u (fun b => b.failure s.variant o cause r.2)

/-- Whether a transmit serializer belongs to a domain; its LOL clears once the domain is on (R373). -/
def Bn.serialUp (b : Bn) (l : Lane) : Bn := b.setLane l { b.lane l with lol := false }

/-- Whether a domain has come up or has been given up. -/
def Bn.settled (b : Bn) (n : Nat) : Bool := b.domOn n || (b.dom n).power == .failed

/-- Whether step 7 is done: every domain of it settled, and every port set that is on trained in this boot (R543, R549). -/
def Bn.step7Done (b : Bn) (v : Variant) : Bool :=
  let sln2 : Bool := v == .sln2
  let doms := [152, 166, 167] ++ (if sln2 then [] else [157, 158])
  doms.all b.settled && (b.boot.minimal || (idx 6).all (fun d =>
    !v.hasFv d || (b.dom (159 + d.val)).power == .failed || (b.domOn (159 + d.val) && wbit (b.recAt 5) (12 + d.val))))

/-- Whether an FV die's self-test read PASS (R549, R558). -/
def Fv.passed (f : Fv) : Bool := f.testDone && f.test.ringFails.isEmpty && f.test.derandOk && f.test.loopOk

/-- The end of a boot (R543, R550): READY with role COLD, or ACTIVE in an SLN-2 (R47), or MINIMAL. `n` is the time since
step 1 in 10 µs units. -/
def Bn.bootDone (b : Bn) (v : Variant) (pass : Nat) (n : Nat) : Bn :=
  let mini := b.boot.minimal
  let b1 := if mini then b else ([153, 154, 155] : List Nat).foldl Bn.domUp b
  let b2 := if mini then b1 else ([1, 2, 3] : List Lane).foldl Bn.serialUp b1
  let b3 := if b2.boot.wakeSeq then b2.restoreRetained.stepTo 6 else b2.stepTo 8
  let r5 := wof ((b3.recAt 5).toNat - bitsOf (b3.recAt 5).toNat 11 6 * 64 + pass * 64)
  let b4 := (b3.setRec 2 (wof n)).setRec 5 r5
  let role : Role := if mini then .minimal else if v = .sln2 then .active else .cold
  let l : LeaseSt := { LeaseSt.none with
    role := role, exp := if v = .sln2 ∧ mini = false then 2 ^ 48 - 1 else 0 }
  { b4 with
    power := { b4.power with dev := if mini then .minimal else .ready }
    lease := l
    boot := { b4.boot with deadlineRun := !mini && b4.boot.outcome == 0 && b4.rd 0x0C02 != 0 } }

/-- The boot is complete once its last step is done (R543, R485). -/
def State.tryBootComplete (s : State) (u : BnId) : State :=
  let b := s.bn u
  if b.power.dev = .boot ∧ b.boot.step = (if b.boot.wakeSeq then 5 else 7) ∧ b.step7Done s.variant = true then
    let r := s.free 4
    let pass := (s.dies.filter (fun d => (s.fv d).passed)).foldl (fun a d => a + 2 ^ d.val) 0
    r.1.mapBn u (fun b => b.bootDone s.variant pass r.2)
  else s

/-- Lane 4 has lock (R374). -/
def Bn.lane4Up (b : Bn) : Bn :=
  b.setLane 4 { b.lane 4 with los := false, lol := false, blockLock := true, cdrLock := true, goodRun := 64, recent := [] }

/-- DOWNLINK_LOCK: in a boot, step 5 or step 3 of the wake sequence ends, and the counter starts at 0 (R156, R374, R543); else
lane 4 has lock again, which DOWNLINK_RELOCK takes up (R161). -/
def Bn.downlinkLock (b : Bn) : Bn :=
  let b1 := b.lane4Up
  if b.power.dev = .boot ∧ b.boot.step = (if b.boot.wakeSeq then 3 else 5) then
    (({ b1 with time := b1.time.restart }.mapPower (fun p => { p with pllRef := 1 })).stepTo (if b.boot.wakeSeq then 4 else 6)).domUp 168
  else b1

/-- DOWNLINK_LOCK (R374). -/
def execDownlinkLock (u : BnId) (s : State) : Host.Outcome State Fault Refusal :=
  let b := s.bn u
  .next (if s.hasBn u = true ∧ b.domOn 156 = true ∧ b.power.xoOk = true then s.mapBn u Bn.downlinkLock else s)

/-- The PLL takes the recovered clock, and the domains move to it (R464, R465, R543). -/
def Bn.pllLocked (b : Bn) (v : Variant) (dies : List Die) : Bn :=
  let wake := b.boot.wakeSeq
  let b1 := ((b.mapPower (fun p => { p with pllLock := true, pllRef := 2, ctrlIn := 2 })).bumpN 0x1406 5 20).stepTo (if wake then 5 else 7)
  if wake then ([0, 5] : List Lane).foldl Bn.serialUp b1
  else
    let ports := if b.boot.minimal then [] else dies.map (fun d => 159 + d.val)
    let doms := ports ++ (if v = .sln2 then [] else [157, 158]) ++ [152, 166, 167]
    ([0, 5] : List Lane).foldl Bn.serialUp (doms.foldl Bn.domUp b1)

/-- A port set drives its reference; its FV die trains anew (R138, R579). -/
def Fv.newTraining (f : Fv) (u : BnId) : Fv :=
  if f.powered then
    let g := f.refBack u
    g.setPort u { g.port u with trained := false, wasTrained := false }
  else f

/-- PLL_LOCK (R464). -/
def execPllLock (u : BnId) (s : State) : Host.Outcome State Fault Refusal :=
  let b := s.bn u
  if s.hasBn u = true ∧ b.power.dev = .boot ∧ b.domOn 168 = true ∧ b.power.pllLock = false ∧
      b.boot.step = (if b.boot.wakeSeq then 4 else 6) then
    let s1 := s.mapBn u (fun b => b.pllLocked s.variant s.dies)
    let s2 := if b.boot.minimal then s1 else s.dies.foldl (fun s d => s.mapFv d (fun f => f.newTraining u)) s1
    .next (s2.tryBootComplete u)
  else .next s

/-- One attempt of a port set (R549): success, a retry, or FAILED with cause 10b. -/
def Bn.trainPort (b : Bn) (d : Die) (ok : Bool) : Bn :=
  if ok then b.setRec 5 (wof ((b.recAt 5).toNat ||| 2 ^ (12 + d.val)))
  else if mget b.boot.trainTries d.val 0 = 0 then b.mapBoot (fun x => { x with trainTries := mput x.trainTries d.val 1 0 })
  else
    let b1 := b.setDom (159 + d.val) ⟨.failed, false, true, 2, 0, 0⟩
    if wbit (b1.recAt 3) 19 then b1 else b1.setRec 3 (wof (2 ^ 19 + 2 * 2 ^ 8 + 159 + d.val))

/-- LIGATURE_TRAINING (R549, R579). -/
def execLigatureTraining (u : BnId) (d : Die) (ok : Bool) (s : State) : Host.Outcome State Fault Refusal :=
  let b := s.bn u
  if s.hasBn u = true ∧ s.variant.hasFv d = true ∧ b.power.dev = .boot ∧ b.boot.minimal = false ∧
      b.boot.step = (if b.boot.wakeSeq then 5 else 7) ∧ b.domOn (159 + d.val) = true ∧ wbit (b.recAt 5) (12 + d.val) = false then
    let s1 := s.mapBn u (fun b => b.trainPort d ok)
    let s2 := if ok then s1.mapFv d (fun f => if f.powered then f.setPort u { f.port u with trained := true } else f) else s1
    .next (s2.tryBootComplete u)
  else .next s

/-- The domains marked core in R470. -/
def coreDom (n : Nat) : Bool :=
  (decide (136 ≤ n) && decide (n < 153)) || n == 156 || n == 165 || n == 168 || n == 169

/-- The waiting WAKE packet ends (R474). -/
def Bn.wakeReply (b : Bn) (n : Nat) (st : Status) : Bn :=
  match b.job with
  | some (.wake tag m) => if m = n then { b with job := none }.reply tag 0x19 st [] else b
  | _ => b

/-- A limit passes on a BN domain (R475): the first time it is switched off and tried once more, then it is FAILED. Answers
whether it became FAILED. -/
def Bn.wakeLimit (b : Bn) (n cause : Nat) : Bn × Bool :=
  let x := b.dom n
  if x.power = .failed ∨ (x.att = 0 ∧ x.waking = 0) then
    if x.waking = 0 then (b, false)
    else (((b.setDom n { x with waking := 0, cause := cause }).bump 0x1009).wakeReply n .failedDomain, true)
  else if x.waking = 2 then
    let b1 := ((b.setDom n ⟨.failed, false, true, cause, 0, 0⟩).bump 0x1009).wakeReply n .failedDomain
    let b2 := if wbit (b1.recAt 3) 19 = true ∨ b.power.dev ≠ .boot then b1 else b1.setRec 3 (wof (2 ^ 19 + cause * 2 ^ 8 + n))
    (b2, true)
  else
    let b1 := b.compOff n
    let b2 := b1.setDom n { b1.dom n with power := .off, isolated := true, waking := 2, att := 0, woken := x.woken }
    let b3 := if n = 169 ∧ cause = 2 then b2.mapPower (fun p => { p with xoOk := false }) else b2
    (if n = 168 then b3.mapPower (fun p => { p with pllLock := false }) else b3, false)

/-- A limit passes on an FV domain (R475, R567). -/
def Fv.wakeLimit (f : Fv) (n : Nat) : Fv :=
  let x := f.dom n
  if f.powered = false ∨ (x.att = 0 ∧ x.waking = 0) then f
  else
    let g := if 64 ≤ n ∧ n < 128 then f.loseBonbon (n - 64) else f
    if x.waking = 2 then g.setDom n ⟨.failed, false, true, 1, 0, 0⟩ else g.setDom n ⟨.off, false, true, 0, 2, 0⟩

/-- DOMAIN_WAKE_FAILURE (R475): a core domain or the XO that becomes FAILED is a boot failure, or resets the die (R548, R551). -/
def execDomainWakeFailure (dom : DomRef) (w : WakeWait) (s : State) : Host.Outcome State Fault Refusal :=
  match dom with
  | .fv d n => .next (if s.variant.hasFv d = true ∧ w = .powerGood then s.mapFv d (fun f => f.wakeLimit n.val) else s)
  | .bn u n =>
    let cause := if w = .powerGood then 1 else 2
    if s.hasBn u = false ∨ (s.bn u).power.dev.resets = false ∨ (w = .clockReady ∧ n.val ≠ 168 ∧ n.val ≠ 169) then .next s
    else
      let r := (s.bn u).wakeLimit n.val cause
      let s1 := s.setBn u r.1
      if r.2 = true ∧ coreDom n.val = true ∧ ¬ (r.1.power.dev = .boot ∧ r.1.boot.minimal = true) then .next (s1.failUnit u 5 5)
      else .next (s1.tryBootComplete u)

/-- A BN domain reports power-good (R472, R474). -/
def Bn.powerIsGood (b : Bn) (n : Nat) : Bn :=
  let x := b.dom n
  if x.waking ≠ 0 then
    let b1 := b.setDom n ⟨.on, x.woken, false, 0, 0, 0⟩
    let b2 := if n = 169 then b1.mapPower (fun p => { p with xoOk := true }) else b1
    b2.wakeReply n .ok
  else if x.att ≠ 0 then b.setDom n { x with att := 0 }
  else b

/-- An FV domain reports power-good (R472, R476); answers whether it came up by it. -/
def Fv.powerIsGood (f : Fv) (n : Nat) : Fv × Bool :=
  let x := f.dom n
  if f.powered = false then (f, false)
  else if x.waking ≠ 0 then (f.setDom n ⟨.on, false, false, 0, 0, 0⟩, true)
  else if x.att ≠ 0 then (f.setDom n { x with att := 0 }, false)
  else (f, false)

/-- The CH_CFG words of a bonbon. -/
def bonbonWords (n : Nat) : List Nat := (List.range 16).map (fun i => 0x1000 + 2 * (16 * n + i))

/-- POWER_GOOD (R472): a boot that waited goes on; the holder restores the words of a bonbon that came up (R490). -/
def execPowerGood (dom : DomRef) (s : State) : Host.Outcome State Fault Refusal :=
  match dom with
  | .fv d n =>
    if s.variant.hasFv d then
      let r := (s.fv d).powerIsGood n.val
      let s1 := s.setFv d r.1
      .next (if r.2 = true ∧ 64 ≤ n.val ∧ n.val < 128 then
        ([BnId.a, BnId.b]).foldl (fun s u =>
          if s.hasBn u = true ∧ (s.bn u).holds = true then s.mapBn u (fun b => b.restoreWords d (bonbonWords (n.val - 64))) else s) s1
      else s1)
    else .next s
  | .bn u n => .next (if s.hasBn u then (s.mapBn u (fun b => b.powerIsGood n.val)).tryBootComplete u else s)

/-- BOOT_DEADLINE (R546): while a FULL impress is armed the deadline moves to the boundary of its crossing, so it does not pass now. -/
def execBootDeadline (u : BnId) (s : State) : Host.Outcome State Fault Refusal :=
  let b := s.bn u
  .next (if s.hasBn u = true ∧ b.boot.deadlineRun = true ∧ b.boot.outcome = 0 then
    (if b.fullArmed then s else s.failUnit u 3 5)
  else s)

/-- Whether the watchdog is armed (R547). -/
def DevState.watched : DevState → Bool
  | .minimal | .ready | .run => true
  | _ => false

/-- WATCHDOG (R547): counted, and the die resets itself with start cause WATCHDOG. -/
def execWatchdog (u : BnId) (s : State) : Host.Outcome State Fault Refusal :=
  .next (if s.hasBn u = true ∧ (s.bn u).power.dev.watched = true then (s.mapBn u (fun b => b.bump 0x0C04)).failUnit u 4 2 else s)

end Sys2Proof.Machine
end

