-- ==== Sys2Proof/Machine/Therm.lean ====
section
/-! DEFINITION. Temperature limits (R525-R540): the shut-down level, the rate of rise, the throttle state, its messages. -/

namespace Sys2Proof.Machine

/-- Change the temperature limits. -/
def Bn.mapTherm (b : Bn) (f : ThermSt → ThermSt) : Bn := { b with therm := f b.therm }

/-- The shut-down level in units of 2^-10 °C (R525). -/
def tripLevel : Int := 117760

/-- A device second in tk (R149). -/
def tkSec : Nat := 1024000000000

/-- The CLASS of a sequence entry (R509, R521). -/
def Bn.sqClass (b : Bn) (e : Nat) : Nat := fld (b.rd (0x3100 + 8 * e)) 18 17

/-- The holder decides a change of the throttle state: it applies from Z = y + 4 and is sent over the cross-link (R533, R540). -/
def Bn.throttleTo (b : Bn) (sln2 : Bool) (st : Throttle) (entry : Nat) : Bn :=
  let k := if st = .enforced then fld (b.rd 0x3409) 3 0 else b.therm.skipK
  let z := b.now + 4
  let code := match st with
    | .normal => 0
    | .asked => 1
    | .enforced => 2
  let b1 := b.mapTherm (fun t => { t with pend := t.pend ++ [(z, st, k, entry)], decided := st, follower := false, sentAt := b.xc })
  let b2 := if st = .enforced then b1.bump 0x3410 else b1
  let b3 := if sln2 then b2
    else { b2 with xl := { b2.xl with ctl := b2.xl.ctl ++ [ctlMsg 8 z (code * 2 ^ 126 + k * 2 ^ 122 + entry * 2 ^ 116)] } }
  b3.alertSync entry

/-- The window length RATE_W. -/
def Bn.rateW (b : Bn) : Nat := fld (b.rd 0x3405) 6 0

/-- Whether an entry's RATE is valid (R529). -/
def Bn.rateValid (b : Bn) (e : Nat) : Bool :=
  decide (b.rateW ≤ (mget b.therm.win e []).length) && b.therm.rate.any (fun p => p.1 == e)

/-- RATE over a window of results, A in 2^-20 code and t in tk (R530): none when the denominator is 0. -/
def slopeOf (win : List (Int × Nat)) : Option Int :=
  let t0 : Int := (win.head?.map (·.2)).getD 0
  let w : Int := win.length
  let ts := win.map (fun p => ((p.2 : Int) - t0, p.1))
  let st := ts.foldl (fun a p => a + p.1) 0
  let sy := ts.foldl (fun a p => a + p.2) 0
  let sty := ts.foldl (fun a p => a + p.1 * p.2) 0
  let stt := ts.foldl (fun a p => a + p.1 * p.1) 0
  let den := w * stt - st * st
  if den = 0 then none
  else some (clampInt ((16 * tkSec * (w * sty - st * sy)).tdiv (2 ^ 20 * den)) 20)

/-- A result of a SENSOR entry enters its window; RATE and the alarm follow (R529-R531). `fr` is the RATE of a window whose
timestamps do not differ, for which the spec states none. -/
def Bn.sensorResult (b : Bn) (sln2 : Bool) (e : Nat) (a : Int) (t : Nat) (fr : Nat) : Bn :=
  let w := b.rateW
  let win0 := mget b.therm.win e [] ++ [(a, t)]
  let win := win0.drop (win0.length - w)
  let b1 := b.mapTherm (fun x => { x with win := mput x.win e win [] })
  if win.length < w then
    b1.mapTherm (fun x => { x with
      rate := mdel x.rate e, hiRun := mdel x.hiRun e, loRun := mdel x.loRun e, alarms := x.alarms.filter (fun k => k != e) })
  else
    let r := (slopeOf win).getD (sx fr 20)
    let hi := if (b.rd 0x3403).toInt ≤ r then mget b.therm.hiRun e 0 + 1 else 0
    let lo := if r < (b.rd 0x3404).toInt then mget b.therm.loRun e 0 + 1 else 0
    let p := fld (b.rd 0x3406) 3 0
    let b2 := b1.mapTherm (fun x => { x with
      rate := mins e r (mdel x.rate e), hiRun := mput x.hiRun e hi 0, loRun := mput x.loRun e lo 0 })
    if p ≤ hi ∧ b.therm.alarms.contains e = false then
      let b3 := ((b2.mapTherm (fun x => { x with alarms := x.alarms ++ [e] })).bump 0x340F).bit 0x3401 5 true
      if b.holds = true ∧ b.therm.decided = .normal then b3.throttleTo sln2 .asked e else b3.alertSync e
    else if p ≤ lo then b2.mapTherm (fun x => { x with alarms := x.alarms.filter (fun k => k != e) })
    else b2

/-- GRACE: the grace seconds pass in ASKED (R532). -/
def execGrace (u : BnId) (s : State) : Host.Outcome State Fault Refusal :=
  let b := s.bn u
  .next (if s.hasBn u = true ∧ b.holds = true ∧ b.therm.decided = .asked then
    s.mapBn u (fun b => b.throttleTo (s.variant == .sln2) .enforced (b.therm.pend.getLast?.map (·.2.2.2) |>.getD b.therm.entry))
  else s)

/-- Whether a valid SENSOR entry rises at RISE_LO or more (R532). -/
def Bn.rising (b : Bn) : Bool :=
  (List.range 64).any (fun e => b.sqClass e == 2 && b.rateValid e && decide ((b.rd 0x3404).toInt ≤ mget b.therm.rate e 0))

/-- HOLD_S: the hold seconds pass without a rising entry (R532). -/
def execHoldS (u : BnId) (s : State) : Host.Outcome State Fault Refusal :=
  let b := s.bn u
  .next (if s.hasBn u = true ∧ b.holds = true ∧ b.therm.decided ≠ .normal ∧ b.rising = false then
    s.mapBn u (fun b => b.throttleTo (s.variant == .sln2) .normal (b.therm.pend.getLast?.map (·.2.2.2) |>.getD b.therm.entry))
  else s)

/-- THERM: the holder repeats the message with the state in force every 1 024 crossings (R533); a unit without a lease adopts it
when the frame that carries it comes into force. -/
def execTherm (u : BnId) (s : State) : Host.Outcome State Fault Refusal :=
  let b := s.bn u
  .next (if s.hasBn u = true ∧ s.variant ≠ .sln2 ∧ b.holds = true ∧ b.therm.pend = [] ∧ b.therm.sentAt + 1024 ≤ b.xc then
    s.mapBn u (fun b =>
      let t := b.therm
      let code := fld t.word 19 18
      { b with
        therm := { t with sentAt := b.xc }
        xl := { b.xl with ctl := b.xl.ctl ++ [ctlMsg 8 (b.now + 4) (code * 2 ^ 126 + t.skipK * 2 ^ 122 + t.entry * 2 ^ 116)] } })
  else s)

/-- SHUTDOWN (R527, R555): the latch, the clock-loss lines, every domain off; the always-on logic stays. -/
def Bn.shutdown (b : Bn) : Bn :=
  let otp := match (List.range 16).find? (fun i => !b.boot.thermOtp.testBit (2 * i)) with
    | some i => b.boot.thermOtp + 2 ^ (2 * i)
    | none => b.boot.thermOtp
  let c := b.cleared b.boot.straps b.time.unsetCause
  { c with
    power := { c.power with dev := .shutdown, clkLossOut := true }
    boot := { c.boot with thermOtp := otp, step := 0 } }

end Sys2Proof.Machine
end

