-- ==== Sys2Proof/Machine/Hkc.lean ====
section
/-! DEFINITION. The housekeeping converter (R495-R524): conversions, output samples, results, rounds, urgent requests, guards,
twins, blanking. Instants are device times in tk; the input of a sample is the row's operand. -/

namespace Sys2Proof.Machine

/-- Change the converter. -/
def Bn.mapHkc (b : Bn) (f : Hkc → Hkc) : Bn := { b with hkc := f b.hkc }

/-- Device time of the current boundary in tk. -/
def Bn.tNow (b : Bn) : Nat := b.time.t / 2 ^ 20

/-- One modulator cycle in tk: 625 compositor cycles (R495). -/
def modTk : Nat := 500000

/-- The first grid instant of a rate at or after a device time (R496). -/
def gridNext (rate t : Nat) : Nat :=
  let sec := t / tkSec
  let j := (t % tkSec * rate + tkSec - 1) / tkSec
  if rate ≤ j then (sec + 1) * tkSec else sec * tkSec + j * tkSec / rate

/-- The group delay in tk (R497). -/
def groupTk (h : Nat) : Nat := (832 * 2 ^ h - 450) * modTk

/-- Word i of the settings a conversion started with (R510). -/
def Conv.w (c : Conv) (i : Nat) : Word := c.sq.getD i 0

/-- The excitation mode in effect: none for GUARD entries and for diodes (R502, R509). -/
def sqMode (sq : List Word) : Nat :=
  let w0 := sq.getD 0 0
  if fld w0 18 17 = 1 ∨ (0x18 ≤ fld w0 5 0 ∧ fld w0 5 0 ≤ 0x1E) then 0 else fld (sq.getD 2 0) 19 18

/-- The sources of SMASK, ascending (R503). -/
def sqSources (sq : List Word) : List Nat := (List.range 4).filter (fun j => wbit (sq.getD 2 0) (9 + j))

/-- The rotation of CHOP (R504). -/
def sqRot (sq : List Word) (round : Nat) : Nat :=
  let m := (sqSources sq).length
  if sqMode sq = 1 ∧ wbit (sq.getD 2 0) 17 = true ∧ 1 < m then round % m else 0

/-- The excitation of a conversion as it can be compared: mode, level, and each source with its pin (R498, R503-R505). -/
def sqExc (sq : List Word) (rot : Nat) : List Word :=
  match sqMode sq with
  | 0 => []
  | 1 =>
    let js := sqSources sq
    let dest (i : Nat) : Nat := fld (sq.getD 3 0) (4 * js.getD i 0 + 3) (4 * js.getD i 0)
    [1, wof (fld (sq.getD 2 0) 16 13)] ++ js.zipIdx.map (fun p => wof (p.1 * 16 + dest ((p.2 + rot) % js.length)))
  | _ => [2]

/-- Whether the converter runs. -/
def Bn.hkcOn (b : Bn) : Bool :=
  b.domOn 166 && b.domOn 167 && b.power.dev.crosses && !b.power.clkWait

/-- ROUND_CNT. -/
def Bn.roundCnt (b : Bn) : Nat := (b.rd 0x3005).toNat

/-- A conversion of an entry as it stands at a switch instant (R498, R510). -/
def Bn.convOf (b : Bn) (e : Nat) (urgent : Bool) (tsw : Nat) : Conv :=
  let sq := (List.range 6).map (fun i => b.rd (0x3100 + 8 * e + i))
  let rot := sqRot sq b.roundCnt
  let a := if sqExc sq rot = b.hkc.exc then 32 else 2048
  { entry := e, urgent := urgent, met := false, sq := sq, k := if urgent then 0 else fld (b.rd (0x2440 + e)) 4 0, tsw := tsw
    settle := tsw + a * modTk, lastT := none, outs := 0, m := 0, sum := 0, rawSum := 0, firstT := 0, usedT := 0
    blanked := false, ovr := false, guardOut := false, chopRot := rot, round := b.roundCnt % 256, asked := false }

/-- A conversion starts: its excitation is the last one switched (R498). -/
def Bn.convStart (b : Bn) (c : Conv) : Bn := b.mapHkc (fun h => { h with conv := some c, exc := sqExc c.sq c.chopRot })

/-- How a dwell ends. -/
inductive HkEnd where
  | dwell | opened | noexc | step
deriving DecidableEq, Repr

/-- Whether a conversion reads the diode of an FV die that the variant lacks (R501). -/
def Conv.absent (c : Conv) (v : Variant) : Bool :=
  let ch := fld (c.w 0) 5 0
  decide (0x18 ≤ ch) && decide (ch ≤ 0x1D) && !((idx 6).any (fun d => d.val == ch - 0x18 && v.hasFv d))

/-- An HK mark (R519). -/
def Bn.hkMark (b : Bn) (kind e : Nat) (w1 : Word) (a : Int) (tk m : Nat) : Bn :=
  b.ctlMark (markWords 0x0A (kind * 64 + e) w1 ([wof (ofInt a 40 / 2 ^ 20), wof (ofInt a 40)] ++ quad tk ++ [wof m]))

/-- The flags that results and raw outputs share: UNSET, CHOP_ROT, ROUND_CNT (R518, R519). -/
def Bn.hkBase (b : Bn) (c : Conv) : Nat := b2n (b.time.step != 2) * 2 ^ 11 + c.chopRot * 2 ^ 8 + c.round

/-- The twin comparison of a result (R516): the run of the entry after it. -/
def Bn.twinRunOf (b : Bn) (c : Conv) (a : Int) (ok : Bool) : Nat :=
  let run := mget b.hkc.twinRun c.entry 0
  if c.urgent = true ∨ wbit (c.w 0) 12 = false ∨ ok = false then run
  else
    match b.hkc.results.find? (fun p => p.1 == fld (c.w 0) 11 6) with
    | some (_, r) => if r.ok = false then run else if 2 ^ (fld (c.w 1) 15 11 + 20) < (a - r.a).natAbs then run + 1 else 0
    | none => run

/-- A dwell ends with its result (R331, R506, R516-R519, R529). `f1` stands for the timestamp of a result without used samples,
`f2` for an undefined RATE; both free. -/
def Bn.finish (b : Bn) (v : Variant) (f1 f2 : Nat) (c : Conv) (how : HkEnd) : Bn :=
  let e := c.entry
  let m := if how = .noexc then 0 else c.m
  let lim : Int := 0x7C000 * m
  let vopen : Bool := how != .noexc && sqMode c.sq == 2 && decide (0 < m) && (decide (lim ≤ c.rawSum) || decide (c.rawSum ≤ -lim))
  let opened : Bool := how == .opened || vopen
  let a : Int := if opened then 0x7FFFF * 2 ^ 20 else if m = 0 then 0 else (c.sum * 2 ^ 20).fdiv m
  let part : Bool := decide (m < 2 ^ c.k)
  let ovr : Bool := c.ovr && how != .noexc
  let open_ : Bool := opened || (c.absent v && decide (0 < m))
  let noexc : Bool := how == .noexc
  let ok : Bool := !(part || ovr || open_ || noexc)
  let run := b.twinRunOf c a ok
  let kk := fld (b.rd 0x3004) 3 0
  let dis : Bool := wbit (c.w 0) 12 && decide (kk ≤ run)
  let reach : Bool := decide (kk ≤ run) && decide (mget b.hkc.twinRun e 0 < kk)
  let w1 := wof (b2n part * 2 ^ 19 + b2n c.blanked * 2 ^ 17 + b2n ovr * 2 ^ 16 + b2n open_ * 2 ^ 15 + b2n noexc * 2 ^ 14 +
    b2n c.guardOut * 2 ^ 13 + b2n dis * 2 ^ 12 + b2n (how == .step) * 2 ^ 10 + b.hkBase c)
  let tk := if m = 0 then f1 % (2 ^ 32 * tkSec) else (c.firstT + c.usedT) / 2
  let kind := if c.urgent then 1 else if c.met then 2 else 0
  let b1 := ((b.hkMark kind e w1 a tk m).wrDbl (0x3300 + 4 * e) (ofInt a 40)).wr (0x3302 + 4 * e) w1
  let b2 := if opened then (b1.bump 0x300A).bit 0x3000 13 true else b1
  let b3 := b2.mapHkc (fun h => { h with
    conv := none, twinRun := mput h.twinRun e run 0
    results := if c.urgent then h.results else (e, ⟨a, ok⟩) :: h.results.filter (fun p => p.1 != e) })
  let b4 := if reach then ((b3.bit 0x3000 14 true).bump 0x300C).alertBit 3 e else b3
  if fld (c.w 0) 18 17 = 2 ∧ ok = true ∧ how ≠ .step then b4.sensorResult (v == .sln2) e a tk f2 else b4

/-- The urgent request that is served next: the first of the best priority (R512). -/
def urgBest (q : List (Nat × Nat)) : Option (Nat × Nat) :=
  (List.range 3).findSome? (fun p => q.find? (fun r => r.1 == p))

/-- A round begins (R511). -/
def Bn.roundStart (b : Bn) (t : Nat) : Bn :=
  b.mapHkc (fun h => { h with
    running := true, pendStart := false, stopping := false, pos := 0, roundAt := t, results := [], abandons := [] })

/-- HKC_CTRL.RUN. -/
def Bn.hkRun (b : Bn) : Bool := wbit (b.rd 0x3001) 16

/-- A round ends (R511); a pending one starts at once. -/
def Bn.roundEnd (b : Bn) (t : Nat) : Bn :=
  let ms := min ((t - b.hkc.roundAt) / (tkSec / 1000)) 0xFFFF
  let b1 := ((b.bump 0x3005).wrN 0x300F ms).mapHkc (fun h => { h with running := false, stopping := false, pos := 0 })
  if b1.hkc.pendStart = true ∧ b1.hkRun = true then b1.roundStart t else b1

/-- The converter switches to what comes next: an urgent request, the next entry of the round, or the end of the round
(R499, R509, R511, R513, R517). -/
def Bn.hkNext (b : Bn) (v : Variant) (fr : Nat → Nat) (tsw : Nat) : Nat → Bn
  | 0 => b
  | k + 1 =>
    let barred (c : Conv) : Bool := sqMode c.sq != 0 && !b.holds
    match urgBest b.hkc.urg with
    | some r =>
      let b1 := (b.mapHkc (fun h => { h with urg := removeFirst (fun x => x == r) h.urg })).bump 0x3007
      let c := b1.convOf r.2 true tsw
      if barred c then (b1.finish v (fr (2 * k)) (fr (2 * k + 1)) c .noexc).hkNext v fr tsw k else b1.convStart c
    | none =>
      if b.hkc.running = false then b
      else if b.hkc.stopping then (b.roundEnd tsw).hkNext v fr tsw k
      else
        match (List.range 64).find? (fun e =>
          decide (b.hkc.pos ≤ e) && decide (e < fld (b.rd 0x3003) 6 0) && wbit (b.rd (0x3100 + 8 * e)) 19) with
        | some e =>
          let b1 := b.mapHkc (fun h => { h with pos := e + 1 })
          let c := b1.convOf e false tsw
          if barred c then (b1.finish v (fr (2 * k)) (fr (2 * k + 1)) c .noexc).hkNext v fr tsw k else b1.convStart c
        | none => (b.roundEnd tsw).hkNext v fr tsw k

/-- A draw of free values for one command (log entry 5). -/
def State.draw (s : State) (kind : Nat) : State × (Nat → Nat) :=
  ({ s with freeCtr := s.freeCtr + 512 }, fun i => Config.freeValue kind (s.freeCtr + i))

/-- Change a unit whose converter runs, with free values at hand. -/
def State.onHkc (s : State) (u : BnId) (f : Bn → (Nat → Nat) → Bn) : State :=
  if s.hasBn u = true ∧ (s.bn u).hkcOn = true then
    let r := s.draw 4
    r.1.mapBn u (fun b => f b r.2)
  else s

/-- What an urgent request meets (R512): merged or queued, or no room. -/
def Bn.urgRequest (b : Bn) (prio e : Nat) : Bn × Bool :=
  let q := b.hkc.urg
  let drop (b : Bn) : Bn := (b.bit 0x3000 8 true).bump 0x3008
  let running : Bool := match b.hkc.conv with
    | some c => c.entry == e && !c.urgent
    | none => false
  if q.any (fun r => r.2 == e) then (b, true)
  else if running then (b.mapHkc (fun h => { h with conv := h.conv.map (fun c => { c with met := true }) }), true)
  else if q.length < 4 then (b.mapHkc (fun h => { h with urg := h.urg ++ [(prio, e)] }), true)
  else if prio = 0 then
    match q.reverse.find? (fun r => decide (0 < r.1)) with
    | some r => ((drop b).mapHkc (fun h => { h with urg := (removeFirst (fun x => x == r) h.urg.reverse).reverse ++ [(0, e)] }), true)
    | none => (drop b, false)
  else if prio = 1 then (drop b, false)
  else (b, false)

/-- Whether a dwell has its samples (R330). -/
def Conv.full (c : Conv) : Bool := decide (2 ^ c.k ≤ c.m) || decide (2 ^ (c.k + 1) ≤ c.outs)

/-- The instant of the next output sample of a conversion (R496, R499). -/
def Conv.nextT (c : Conv) : Nat :=
  gridNext (fld (c.w 1) 10 0) (match c.lastT with
    | some t => t + 1
    | none => c.tsw)

/-- The group delay of a conversion. -/
def Conv.gd (c : Conv) : Nat := groupTk (fld (c.w 1) 19 16)

/-- Whether an excited conversion has lost its lease (R517). -/
def Bn.excLost (b : Bn) (c : Conv) : Bool := sqMode c.sq != 0 && !b.holds

/-- The sign of an over-range that a window overlaps, the newest if several (R507). -/
def Bn.overIn (b : Bn) (lo hi : Nat) : Option Bool :=
  (b.hkc.overs.reverse.find? (fun p => decide (p.1 ≤ hi) && decide (lo ≤ p.1 + 8 * modTk))).map (·.2)

/-- Whether a window overlaps a blank interval (R508). -/
def Bn.blankIn (b : Bn) (lo hi : Nat) : Bool :=
  b.hkc.blanks.any (fun p => decide (p.1 ≤ hi) && (match p.2 with
    | some t => decide (lo ≤ t)
    | none => true))

/-- The corrected code of a sample, and whether it saturates (R500). -/
def correct (c : Conv) (x : Int) : Int × Bool :=
  let y := ((x - (c.w 4).toInt) * (c.w 5).toNat + 2 ^ 17).fdiv (2 ^ 18)
  (clampInt y 20, decide (clampInt y 20 ≠ y))

/-- The window of a GUARD entry (R515): whether a sample lies outside. -/
def guardOutside (c : Conv) (y : Int) : Bool :=
  let s := y.fdiv 1024
  let wlo := sx (fld (c.w 3) 19 16 * 64 + fld (c.w 3) 15 10) 10
  let whi := sx (fld (c.w 3) 9 0) 10
  decide (s < wlo) || decide (whi < s)

/-- The checks that a used sample of a DIE entry meets (R525, R526): the unit, and whether SHUTDOWN begins. -/
def Bn.dieCheck (b : Bn) (e : Nat) (y : Int) (ovr : Bool) : Bn × Bool :=
  let b0 := if (b.rd 0x340D).toInt < y then b.wrN 0x340D (ofInt y 20) else b
  if ovr = true ∨ tripLevel ≤ y then
    if mget b.hkc.dieRun e 0 = 0 then
      let b1 := (b0.mapHkc (fun h => { h with dieRun := mput h.dieRun e 1 0 })).bump 0x340E
      ((b1.urgRequest 0 e).1.alertBit 2 e, false)
    else (b0, true)
  else (b0.mapHkc (fun h => { h with dieRun := mdel h.dieRun e }), false)

/-- HK_OUTPUT_SAMPLE: a sample is formed, corrected and flagged (R495-R502, R507, R508, R515, R520, R525-R527). -/
def Bn.hkSample (b : Bn) (v : Variant) (raw : Word) (t : Nat) : Bn :=
  match b.hkc.conv with
  | none => b
  | some c =>
    if t ≠ c.nextT ∨ c.full = true ∨ b.excLost c = true ∨ b.tNow + 25600 ≤ t + c.gd then b
    else
      let lo := t - c.gd
      let hi := t + c.gd
      let e := c.entry
      let cls := fld (c.w 0) 18 17
      let ovr := b.overIn lo hi
      let absent := c.absent v
      let x : Int := match ovr with
        | some neg => if neg then -0x80000 else 0x7FFFF
        | none => raw.toInt
      let r : Int × Bool := if absent then (0, false) else if ovr.isSome then (x, true) else correct c x
      let unset : Bool := decide (t < c.settle + c.gd)
      let blanked := b.blankIn lo hi
      let used : Bool := !unset && !blanked
      let out : Bool := used && cls == 1 && guardOutside c r.1
      let fl := b2n unset * 8 + b2n blanked * 4 + b2n r.2 * 2 + b2n absent
      let c1 : Conv := { c with
        lastT := some t
        outs := if unset then c.outs else c.outs + 1
        m := c.m + b2n used
        sum := if used then c.sum + r.1 else c.sum
        rawSum := if used then c.rawSum + x else c.rawSum
        firstT := if used = true ∧ c.m = 0 then t else c.firstT
        usedT := if used then t else c.usedT
        blanked := c.blanked || (blanked && !unset)
        ovr := c.ovr || (r.2 && used)
        guardOut := c.guardOut || out
        asked := c.asked || out }
      let b1 := ((b.mapHkc (fun h => { h with conv := some c1 })).wrN 0x3010
        (2 ^ 19 + e * 2 ^ 13 + b2n c.urgent * 2 ^ 12 + fl * 2 ^ 8)).wrN 0x3011 (ofInt r.1 20)
      let b2 := if r.2 then b1.bump 0x300B else b1
      let b3 := if wbit (c.w 0) 16 then
          b2.hkMark 3 e (wof (b2n unset * 2 ^ 18 + b2n blanked * 2 ^ 17 + b2n r.2 * 2 ^ 16 + b2n absent * 2 ^ 15 + b2n out * 2 ^ 13 +
            b.hkBase c)) (r.1 * 2 ^ 20) t (b2n used)
        else b2
      let b4 := if out then
          let x1 := (b3.bit 0x3000 15 true).bump 0x300D
          let x2 := if wbit (c.w 2) 8 = true ∧ c.asked = false then (x1.urgRequest 1 (fld (c.w 2) 5 0)).1 else x1
          x2.alertBit 4 e
        else b3
      if used = true ∧ cls = 3 ∧ absent = false then
        let d := b4.dieCheck e r.1 r.2
        if d.2 then d.1.shutdown else d.1
      else b4

/-- HK_OUTPUT_SAMPLE (R496). -/
def execHkOutputSample (u : BnId) (raw : Word) (instant : Nat) (s : State) : Host.Outcome State Fault Refusal :=
  .next (s.onHkc u (fun b _ => b.hkSample s.variant raw instant))

/-- How many switches one command can make at most: entries without excitation take no time. -/
def hkFuel : Nat := 140

/-- The running conversion ends, and the converter switches (R499). -/
def Bn.endDwell (b : Bn) (v : Variant) (fr : Nat → Nat) (c : Conv) (how : HkEnd) (tsw : Nat) : Bn :=
  (b.finish v (fr 500) (fr 501) c how).hkNext v fr tsw hkFuel

/-- HK_DWELL_END: the dwell has its samples, or an excited dwell has lost its lease (R499, R517). -/
def Bn.dwellEnd (b : Bn) (v : Variant) (fr : Nat → Nat) : Bn :=
  match b.hkc.conv with
  | none => b
  | some c =>
    if b.excLost c then b.endDwell v fr c .noexc b.tNow
    else if c.full then b.endDwell v fr c .dwell ((c.lastT.getD 0) + c.gd)
    else b

/-- HK_DWELL_END (R499). -/
def execHkDwellEnd (u : BnId) (s : State) : Host.Outcome State Fault Refusal :=
  .next (s.onHkc u (fun b fr => b.dwellEnd s.variant fr))

/-- OPEN_CIRCUIT: a current source leaves its compliance (R506). -/
def execOpenCircuit (u : BnId) (s : State) : Host.Outcome State Fault Refusal :=
  .next (s.onHkc u (fun b fr =>
    match b.hkc.conv with
    | some c => if sqMode c.sq = 1 ∧ b.holds = true then b.endDwell s.variant fr c .opened b.tNow else b
    | none => b))

/-- A start request (R511): a round starts, or the request is coalesced. -/
def Bn.startRequest (b : Bn) (v : Variant) (fr : Nat → Nat) (t : Nat) : Bn :=
  if b.hkRun = false then b
  else if b.hkc.running then ((b.mapHkc (fun h => { h with pendStart := true })).bit 0x3000 16 true).bump 0x3006
  else
    let b1 := b.roundStart t
    if b1.hkc.conv.isSome then b1 else b1.hkNext v fr t hkFuel

/-- The instant of a periodic start in the current crossing: a device time whose whole milliseconds are a multiple of
ROUND_MS (R511). -/
def Bn.periodicAt (b : Bn) : Option Nat :=
  let p := (b.rd 0x3002).toNat % 2 ^ 16 * (tkSec / 1000)
  let t := b.tNow
  if p = 0 then none
  else
    let x := (t + p - 1) / p * p
    if x < t + 25600 ∧ b.hkc.lastPeriodic ≠ some x then some x else none

/-- HK_ROUND_START: a periodic start falls due, or a pending round starts (R511). -/
def execHkRoundStart (u : BnId) (s : State) : Host.Outcome State Fault Refusal :=
  .next (s.onHkc u (fun b fr =>
    match b.periodicAt with
    | some x => (b.mapHkc (fun h => { h with lastPeriodic := some x })).startRequest s.variant fr x
    | none => if b.hkc.pendStart = true ∧ b.hkc.running = false then b.startRequest s.variant fr b.tNow else b))

/-- BLANK starts or ends on a unit as the ball and BLANK_CMD say (R508). -/
def Bn.blankSync (b : Bn) : Bn :=
  let want := b.hkc.pin || wbit (b.rd 0x3001) 18
  let have_ := b.hkc.blanks.any (fun p => p.2.isNone)
  if want = true ∧ have_ = false then (b.mapHkc (fun h => { h with blanks := h.blanks ++ [(b.tNow, none)] })).bump 0x300E
  else if want = false ∧ have_ = true then
    b.mapHkc (fun h => { h with blanks := h.blanks.map (fun p => (p.1, some (p.2.getD b.tNow))) })
  else b

/-- BLANK: the level of the shared ball, as a unit sees it (R508). -/
def execBlank (u : BnId) (high : Bool) (s : State) : Host.Outcome State Fault Refusal :=
  .next (if s.hasBn u then
    { s with blankPin := high }.mapBn u (fun b =>
      let b1 := b.mapHkc (fun h => { h with pin := high })
      if b1.hkcOn then b1.blankSync else b1)
  else s)

/-- OVER_RANGE (R507). -/
def execOverRange (u : BnId) (negative : Bool) (s : State) : Host.Outcome State Fault Refusal :=
  .next (s.onHkc u (fun b _ => b.mapHkc (fun h => { h with overs := h.overs ++ [(b.tNow, negative)] })))

/-- URGENT_CONVERSION: a queued request starts; in an SLN-8 it abandons the running dwell, at most three times per entry and
round (R513, R514). -/
def Bn.urgentStart (b : Bn) (v : Variant) (fr : Nat → Nat) : Bn :=
  if b.hkc.urg = [] then b
  else
    match b.hkc.conv with
    | none => b.hkNext v fr b.tNow hkFuel
    | some c =>
      if c.urgent = true ∨ v ≠ .sln8 then b
      else if 3 ≤ mget b.hkc.abandons c.entry 0 then b.bit 0x3000 12 true
      else
        ((b.mapHkc (fun h => { h with
          conv := none, pos := c.entry, abandons := mput h.abandons c.entry (mget h.abandons c.entry 0 + 1) 0 })).bump 0x3009).hkNext
            v fr b.tNow hkFuel

/-- URGENT_CONVERSION (R513). -/
def execUrgentConversion (u : BnId) (s : State) : Host.Outcome State Fault Refusal :=
  .next (s.onHkc u (fun b fr => b.urgentStart s.variant fr))

/-- The counters of the HKC block that CNT_CLEAR clears (R521). -/
def hkcCounters : List Nat := (List.range 11).map (0x3005 + ·)

/-- A write of HKC_CTRL (R508, R511, R521). -/
def Bn.writeHkcCtrl (b : Bn) (v : Variant) (fr : Nat → Nat) (val : Word) : Bn :=
  let b1 := b.wr 0x3001 (val &&& 0x50000#20)
  let b2 := (if wbit val 17 then b1.clearWords hkcCounters else b1).blankSync
  let b3 := b2.mapHkc (fun h => { h with stopping := h.running && !wbit val 16 })
  if wbit val 19 then b3.startRequest v fr b.tNow else b3

/-- An access to the HKC block outside a packet: refused while its domain sleeps or has failed (R456). -/
def State.hkcAccess (s : State) (u : BnId) (f : Bn → (Nat → Nat) → Bn) : State :=
  let r := s.draw 4
  r.1.access u (fun b =>
    if b.failedBlock 0x3000 then (b, .failedDomain) else if b.asleep 0x3000 then (b, .asleep) else (f b r.2, .ok))

/-- HK_START: HKC_CTRL written with START = 1 and its other fields as they stand (R511). -/
def execHkStart (u : BnId) (s : State) : Host.Outcome State Fault Refusal :=
  .next (s.hkcAccess u (fun b fr => b.writeHkcCtrl s.variant fr (setFld (b.rd 0x3001) 19 19 1)))

/-- HK_RUN_STOP: HKC_CTRL written with RUN = 0 (R511). -/
def execHkRunStop (u : BnId) (s : State) : Host.Outcome State Fault Refusal :=
  .next (s.hkcAccess u (fun b fr => b.writeHkcCtrl s.variant fr (setFld (b.rd 0x3001) 16 16 0)))

/-- The HKC restarted (R523): no excitation, no conversion, no requests, no twin runs, no counters; its settings from the
pantry. -/
def Bn.hkcReset (b : Bn) : Bn :=
  let b1 := { b with hkc := { Hkc.rest with pin := b.hkc.pin, blanks := b.hkc.blanks.filter (fun p => p.2.isNone) } }
  let b2 := b1.clearWords hkcCounters
  (bnRetained.filter (fun o => 0x3000 ≤ o ∧ o < 0x3400)).foldl (fun b o =>
    match pantryBn o with
    | some w => b.wr o (b.pw w)
    | none => b) b2

/-- TIME_STEP_EFFECT at the boundary of C: the running dwell ends with STEP, the step takes effect, the rate windows empty, and
the next conversion starts on the new grid (R162, R518, R529). -/
def Bn.stepAll (b : Bn) (v : Variant) (fr : Nat → Nat) : Bn :=
  match b.time.stepPend with
  | some (c, _) =>
    if b.now ≠ c then b
    else
      let b1 := match b.hkc.conv with
        | some k => if b.hkcOn then b.finish v (fr 500) (fr 501) k .step else b
        | none => b
      let b2 := b1.stepEffect
      let b3 := (b2.mapTherm ThermSt.emptied).mapHkc (fun h => { h with
        overs := [], blanks := (h.blanks.filter (fun p => p.2.isNone)).map (fun _ => (b2.tNow, none)), lastPeriodic := none })
      if b.hkc.conv.isSome = true ∧ b.hkcOn = true then b3.hkNext v fr b3.tNow hkFuel else b3
  | none => b

/-- TIME_STEP_EFFECT (R162, R518). -/
def execTimeStepEffect (u : BnId) (s : State) : Host.Outcome State Fault Refusal :=
  .next (if s.hasBn u then
    let r := s.draw 4
    r.1.mapBn u (fun b => b.stepAll s.variant r.2)
  else s)

end Sys2Proof.Machine
end

