-- ==== Sys2Proof/Machine/View.lean ====
section
/-! DEFINITION. What a READ of a BN word shows (R158, R177, R205, R210, R276, R307, R332, R364, R392, R426, R458-R461, R492,
R493, R521, R539, R559): the stored word, or the word formed from the state that owns it. -/

namespace Sys2Proof.Machine

/-- The code of the staged bank's state (R460). -/
def StageState.code : StageState → Nat
  | .empty => 0
  | .staging => 1
  | .proved => 2
  | .armed => 3

/-- The code of the staged forme's state (R276). -/
def FormeStage.code : FormeStage → Nat
  | .empty => 0
  | .loading => 1
  | .loaded => 2
  | .proved => 3
  | .armed => 4

/-- The code of the acquisition phase (R332). -/
def AcqPhase.code : AcqPhase → Nat
  | .idle => 0
  | .startPend => 1
  | .run => 2
  | .stopPend => 3
  | .drain => 4

/-- The code of a throttle state (R533). -/
def Throttle.code : Throttle → Nat
  | .normal => 0
  | .asked => 1
  | .enforced => 2

/-- The code of a transmit lane's state (R392). -/
def LaneState.code : LaneState → Nat
  | .idle => 0
  | .training => 1
  | .active => 2
  | .prbs => 3

/-- The bits of the key slots of a level: programmed in bit 2s, revoked in bit 2s + 1 (R459). -/
def slotBits (v : Vector Slot 8) : Nat :=
  (idx 8).foldl (fun a i => a + b2n v[i].programmed * 4 ^ i.val + b2n v[i].revoked * 2 * 4 ^ i.val) 0

/-- Whether sheets carry UNCOMPARED (R406). -/
def Bn.uncompared (b : Bn) : Bool := b.lease.role == .active && (b.xl.down || b.partnerRole != some 1)

/-- A number of 32 bits as the two words of a double, [31:0] (R16). -/
def dblWord (n i : Nat) : Word := if i = 0 then wof (n / 2 ^ 20) else wof n

/-- SESS_STATUS and the other session words (R459). `n` stands for a count of seconds that the AON clock times. -/
def Bn.viewSess (b : Bn) (n off : Nat) : Word :=
  let s := b.sess
  if off = 0x0400 then
    wof (s.level.code * 2 ^ 18 + fld (b.rd off) 17 17 * 2 ^ 17 + s.slot * 2 ^ 14 + b2n s.lockA * 2 ^ 13 + b2n s.lockB * 2 ^ 12)
  else if off = 0x0402 then wof (fld (b.pw 0x000D) 1 0)
  else if off = 0x0403 then wof (fld (b.pw 0x000D) 3 2)
  else if off = 0x0404 then wof (if s.lockA then 1 + n % 64 else 0)
  else if off = 0x0405 then wof (if s.lockB then 1 + n % 64 else 0)
  else if off = 0x0406 then wof (if s.level = .open then 0 else n % ((b.rd 0x0401).toNat + 1))
  else if off = 0x0407 then wof (slotBits s.slotsA)
  else if off = 0x0408 then wof (slotBits s.slotsB)
  else b.rd off

/-- The words of the STAGE block (R460). -/
def Bn.viewStage (b : Bn) (sln2 : Bool) (off : Nat) : Word :=
  let s := b.stage
  if off = 0x0800 then
    wof (s.st.code * 2 ^ 17 + b2n b.fvContent * 2 ^ 16 + b2n s.twinSkipped * 2 ^ 15 + b2n s.restoreArmed * 2 ^ 14 + s.goTag * 2 ^ 8 +
      s.lastRule)
  else if off = 0x0801 then wof b.heldEntries.length
  else if off = 0x0802 ∨ off = 0x0803 then dblWord (b.stagedCrc sln2) (off - 0x0802)
  else if off = 0x0804 ∨ off = 0x0805 then dblWord (b.liveCrc sln2) (off - 0x0804)
  else if off = 0x0806 ∨ off = 0x0807 then dblWord ((b.xl.partnerTwin.getD 0) / 2) (off - 0x0806)
  else if 0x0808 ≤ off ∧ off ≤ 0x080A then
    (if s.st = .armed then (xcWords s.armedN).getD (off - 0x0808) 0 else 0)
  else if off = 0x080B then wof ((b.rd off).toNat + (if s.st = .armed then s.armedTag else 0) * 2 ^ 8)
  else b.rd off

/-- The words of the BOOT block (R559). -/
def Bn.viewBoot (b : Bn) (n off : Nat) : Word :=
  let x := b.boot
  let even := (List.range 16).foldl (fun a i => a + b2n (x.thermOtp.testBit (2 * i))) 0
  let odd := (List.range 16).foldl (fun a i => a + b2n (x.thermOtp.testBit (2 * i + 1))) 0
  if off = 0x0C00 then
    wof (x.cause * 2 ^ 16 + x.outcome * 2 ^ 12 + x.step * 2 ^ 8 + x.straps.bootsel.toNat * 2 ^ 6 + b2n x.deadlineRun * 2 ^ 5 + b.failRun)
  else if off = 0x0C01 then b.pw 1
  else if off = 0x0C03 then wof (if x.deadlineRun then n % ((b.rd 0x0C02).toNat + 1) else 0)
  else if off = 0x0C05 then b.recAt 2
  else if off = 0x0C06 then b.recAt 5
  else if off = 0x0C07 then wof (b2n (even == 16) * 2 ^ 19 + odd * 2 ^ 5 + even)
  else b.rd off

/-- The words of the POWER block (R492). -/
def Bn.viewPower (b : Bn) (off : Nat) : Word :=
  let p := b.power
  if off = 0x1000 then
    let pend := match p.entry with
      | some e => if e.doze then 1 else 2
      | none => 0
    let hold : Bool := match p.holdEnd with
      | some x => decide (b.xc ≤ x)
      | none => false
    wof (p.dev.code * 2 ^ 17 + (b.rd off).toNat + b2n hold * 2 ^ 13 + b2n (!b.pantry.restore.isEmpty) * 2 ^ 11 + pend * 2 ^ 9)
  else if off = 0x100A then
    wof (fld (b.rd off) 19 19 * 2 ^ 19 + b2n b.pantry.wasEmpty * 2 ^ 18 + b.pantry.scrubNext % 2048)
  else if off = 0x100D then wof ((p.doms.filter (fun q => q.2.power == .failed)).length)
  else if 0x1100 ≤ off then domWord (b.dom (off - 0x1100)) (b.dom (off - 0x1100)).woken
  else b.rd off

/-- The words of the CLOCK block (R493). `n` stands for the TOSC measurement, which runs against the PLL. -/
def Bn.viewClock (b : Bn) (n off : Nat) : Word :=
  let p := b.power
  let meas := if p.pllLock then n % 2 ^ 15 else 0
  if off = 0x1400 then
    wof (b2n p.xoOk * 2 ^ 19 + b2n (decide (15920 ≤ meas) && decide (meas ≤ 16080)) * 2 ^ 18 + b2n p.pllLock * 2 ^ 17 +
      p.pllRef * 2 ^ 15 + b2n p.clkWait * 2 ^ 14 + p.ctrlIn * 2 ^ 12 + (b.rd off).toNat)
  else if off = 0x1404 then wof meas
  else if off = 0x1405 then wof (Config.toscTrim b.unit).toNat
  else b.rd off

/-- The words of the TIME block (R177, R178, R165). -/
def Bn.viewTime (b : Bn) (off : Nat) : Word :=
  let t := b.time
  if off = 0x1800 then
    wof (t.step * 2 ^ 18 + b2n t.holdover * 2 ^ 17 + b2n t.xcSync * 2 ^ 16 + (b.rd off).toNat + b2n t.ratePend.isSome * 2 ^ 14 + t.unsetCause)
  else if off = 0x1809 then (rateWords t.rate).1
  else if off = 0x180A then (rateWords t.rate).2
  else if off = 0x180D then 1887
  else if off = 0x180E then 1241
  else b.rd off

/-- LSTAT of a lane (R392). -/
def Bn.viewLane (b : Bn) (l : Lane) : Word :=
  let x := b.lane l
  let st := if laneRx l then (if x.st = .prbs then 3 else if x.los = false ∧ x.lol = false then 2 else 0) else x.st.code
  wof (st * 2 ^ 18 + b2n (laneRx l && x.los) * 2 ^ 17 + b2n x.lol * 2 ^ 16 + b2n x.chkLock * 2 ^ 15 + (b.rd (lStat l)).toNat)

/-- The words of the LANES block (R392). -/
def Bn.viewLanes (b : Bn) (sln2 : Bool) (off : Nat) : Word :=
  if off = 0x1C00 then wof (b2n b.dnLock * 2 ^ 19 + b2n (sln2 || b.xl.down) * 2 ^ 18)
  else if sln2 = true ∧ ((0x1C05 ≤ off ∧ off ≤ 0x1C09) ∨ 0x1C38 ≤ off) then 0
  else if h : 0x1C10 ≤ off ∧ off < 0x1C48 ∧ off % 8 = 0 then b.viewLane ⟨(off - 0x1C10) / 8, by omega⟩
  else b.rd off

/-- The words of the LEASE block (R426). -/
def Bn.viewLease (b : Bn) (sln2 : Bool) (off : Nat) : Word :=
  let l := b.lease
  if sln2 then
    if off = 0x2000 then wof (2 ^ 15 + 2 ^ 12)
    else if off = 0x2005 ∨ off = 0x2006 then BitVec.allOnes 20
    else if off = 0x2007 then 0xFF#20
    else if 0x2008 ≤ off ∧ off ≤ 0x200A then b.rd off
    else 0
  else if off = 0x2000 then
    wof (l.role.code * 2 ^ 16 + b2n b.holds * 2 ^ 15 + b2n l.gaveUp * 2 ^ 14 + b2n l.diverge * 2 ^ 13 + b2n b.xl.down * 2 ^ 12 +
      b2n b.uncompared * 2 ^ 11 + b2n l.claim * 2 ^ 10 + l.join.code * 2 ^ 8 + b2n l.jvalid * 2 ^ 7 + b2n l.tailDrop * 2 ^ 6)
  else if 0x2005 ≤ off ∧ off ≤ 0x2007 then (xcWords l.exp).getD (off - 0x2005) 0
  else b.rd off

/-- The words of the ACQ block (R332). -/
def Bn.viewAcq (b : Bn) (off : Nat) : Word :=
  if off = 0x2401 then wof (b.acq.phase.code * 2 ^ 17 + (b.rd off).toNat + b2n b.denseOk * 8 + b.acq.level)
  else b.rd off

/-- The words of the GALLEY block (R307). -/
def Bn.viewGal (b : Bn) (off : Nat) : Word :=
  if off = 0x2C02 then wof b.gal.avail
  else if off = 0x2C03 then wof b.gal.bump
  else if off = 0x2C10 then wof b.gal.leaked
  else if 0x2C40 ≤ off ∧ off % 4 = 2 then wof (b.queue ((off - 0x2C42) / 4)).cells.length
  else if 0x2C40 ≤ off ∧ off % 4 = 3 then
    let x := b.queue ((off - 0x2C43) / 4)
    wof (b2n x.flushed * 2 ^ 19 + b2n x.above * 2 ^ 18 + (b.rd off).toNat)
  else b.rd off

/-- The words of the HKC block (R521). -/
def Bn.viewHkc (b : Bn) (off : Nat) : Word :=
  let h := b.hkc
  if off = 0x3000 then
    wof (b2n h.running * 2 ^ 19 + b2n ((h.conv.map (·.urgent)).getD false) * 2 ^ 18 + b2n (h.blanks.any (fun p => p.2.isNone)) * 2 ^ 17 +
      (b.rd off).toNat + min h.urg.length 4 * 2 ^ 9 + (h.conv.map (·.entry)).getD 0)
  else b.rd off

/-- The words of the THERM block (R539). -/
def Bn.viewTherm (b : Bn) (off : Nat) : Word :=
  let t := b.therm
  let e := fld (b.rd 0x340A) 5 0
  if off = 0x3400 then wof (t.st.code * 2 ^ 18 + t.entry * 2 ^ 12 + t.skipK * 2 ^ 8 + b2n t.follower * 2 ^ 7)
  else if off = 0x3401 then wof b.alertWord
  else if off = 0x340B then wof (ofInt (mget t.rate e 0) 20)
  else if off = 0x340C then
    wof (b2n (b.rateValid e) * 2 ^ 19 + b2n (t.alarms.contains e) * 2 ^ 18 + min (mget t.win e []).length 127)
  else b.rd off

/-- The words of the STATS and TAP block (R461). -/
def Bn.viewStats (b : Bn) (off : Nat) : Word :=
  if off = 0x3801 then
    wof (b2n b.stats.armed * 2 ^ 19 + b2n b.stats.collecting * 2 ^ 18 + b2n b.stats.done * 2 ^ 17 + min ((b.queue 33).count / 8) 0x3FF)
  else b.rd off

/-- The words of the COMP block (R210). -/
def Bn.viewComp (b : Bn) (v : Variant) (off : Nat) : Word :=
  if off = 0x3C01 then wof (v.code * 2 ^ 16 + 1)
  else if 0x3C08 ≤ off ∧ off < 0x3C10 then
    let k := off - 0x3C08
    wof ((b.dom (128 + k)).power.code * 2 ^ 18 + b2n ((List.range 16).any (fun i => b.used (16 * k + i))) * 2 ^ 17)
  else if 0x3D00 ≤ off ∧ off < 0x3D80 then
    let n := off - 0x3D00
    wof ((b.dom n).power.code * 2 ^ 18 + b2n (b.used n) * 2 ^ 17 + (b.rd off).toNat)
  else if h : 0x3E00 ≤ off ∧ off < 0x3E80 then Config.probeRom ⟨off - 0x3E00, by omega⟩
  else if h : 0x3E80 ≤ off ∧ off < 0x3E90 then Config.probeTable ⟨off - 0x3E80, by omega⟩
  else b.rd off

/-- FORME_STATUS (R276). -/
def Bn.formeStatus (b : Bn) : Word :=
  let l := b.loader
  wof (l.st.code * 2 ^ 17 + b2n l.crcOk * 2 ^ 16 + b2n l.sealOk * 2 ^ 15 + b2n l.goRefused * 2 ^ 14 + b2n l.live * 2 ^ 13 +
    b2n l.sectErr * 2 ^ 12 + l.lastRule)

/-- The words of the FORME block (R276). -/
def Bn.viewForme (b : Bn) (off : Nat) : Word :=
  if off = 0x4001 then b.formeStatus
  else if off = 0x4002 then wof b.loader.img.length
  else if off = 0x4003 then 0
  else if off = 0x4004 ∨ off = 0x4005 then dblWord b.loader.crcCalc (off - 0x4004)
  else if 0x4006 ≤ off ∧ off < 0x4013 then b.loader.sealCalc.getD (off - 0x4006) 0
  else b.rd off

/-- The words of the IDENT block (R458). -/
def Bn.viewIdent (b : Bn) (v : Variant) (gradeH : Bool) (off : Nat) : Word :=
  if off = 0x0001 then
    wof (v.code * 2 ^ 16 + 2 * 2 ^ 12 + b2n gradeH * 2 ^ 11 + b.unit.bit * 2 ^ 10 + b.boot.straps.posId.toNat)
  else if h : 2 ≤ off ∧ off < 6 then Config.pkgSerial ⟨off - 2, by omega⟩
  else if h : 6 ≤ off ∧ off < 8 then Config.bnSerial b.unit ⟨off - 6, by omega⟩
  else if off = 0x0008 then Config.romVer
  else if off = 0x0009 then wof b.patches.length
  else b.rd off

/-- What a READ of a BN word outside the window shows. `n` is a free count, for the words that show a time which no crossing
counts (log entry 5). -/
def Bn.view (b : Bn) (v : Variant) (gradeH : Bool) (n off : Nat) : Word :=
  let sln2 : Bool := v == .sln2
  if off < 0x0400 then b.viewIdent v gradeH off
  else if off < 0x0800 then b.viewSess n off
  else if off < 0x0C00 then b.viewStage sln2 off
  else if off < 0x1000 then b.viewBoot n off
  else if off < 0x1400 then b.viewPower off
  else if off < 0x1800 then b.viewClock n off
  else if off < 0x1C00 then b.viewTime off
  else if off < 0x2000 then b.viewLanes sln2 off
  else if off < 0x2400 then b.viewLease sln2 off
  else if off < 0x2800 then b.viewAcq off
  else if off < 0x2C00 then b.rd off
  else if off < 0x3000 then b.viewGal off
  else if off < 0x3400 then b.viewHkc off
  else if off < 0x3800 then b.viewTherm off
  else if off < 0x3C00 then b.viewStats off
  else if off < 0x4000 then b.viewComp v off
  else b.viewForme off

end Sys2Proof.Machine
end

