-- ==== Sys2Proof/Machine/Regs.lean ====
section
/-! DEFINITION. Reading, writing and staging the words of a BN die (R18-R21, R432, R436, R447, R454-R456), the compositor memory
window (R204, R205, R580), and what a written word does. -/

namespace Sys2Proof.Machine

/-- The bits of a BN word that an access sets to the written value (R18, R19). -/
def setMask (off : Nat) : Nat :=
  match rowOf bnMap off with
  | some r => r.rw ||| r.ao ||| stMask off
  | none => 0

/-- The write-one-to-clear bits of a BN word. -/
def w1cMask (off : Nat) : Nat := ((rowOf bnMap off).map (·.w1c)).getD 0

/-- Whether a channel code is reserved (R501). -/
def chanReserved (c : Nat) : Bool := c == 0x1F || decide (0x2E ≤ c)

/-- A value that a sequence word refuses (R522). -/
def sqRefuses (e i : Nat) (v : Word) : Bool :=
  if i = 0 then
    chanReserved (fld v 5 0) || (fld v 18 17 == 3 && !(decide (0x18 ≤ fld v 5 0) && decide (fld v 5 0 ≤ 0x1E))) ||
      (wbit v 12 && decide (e ≤ fld v 11 6))
  else if i = 1 then
    fld v 19 16 == 0 || decide (12 < fld v 19 16) || decide (19 < fld v 15 11) || fld v 10 0 == 0 || decide (2000 < fld v 10 0) ||
      decide (32000 < fld v 10 0 * 2 ^ fld v 19 16)
  else if i = 2 then
    fld v 19 18 == 3 || (fld v 19 18 == 1 && (fld v 16 13 == 0 || decide (11 < fld v 16 13) || fld v 12 9 == 0))
  else false

/-- Whether a number lies outside a range. -/
def outside (n lo hi : Nat) : Bool := decide (n < lo) || decide (hi < n)

/-- A value that a BN word refuses with RANGE (R21, R151, R307, R333, R365, R427, R459, R461, R492, R493, R522, R540, R559), the
other words being as `rd` shows them. -/
def bnRefuses (rd : Nat → Word) (off : Nat) (v : Word) : Bool :=
  let n := v.toNat
  if off = 0x0401 then outside (fld v 11 0) 1 3600
  else if off = 0x0C02 then decide (3600 < fld v 11 0)
  else if off = 0x1002 then outside (fld v 14 0) 64 16384
  else if off = 0x1401 then fld v 19 18 == 3
  else if off = 0x1811 ∨ off = 0x181D then decide (238 < fld v 7 0)
  else if off = 0x1813 ∨ off = 0x181F then !quadOk (rd (off - 2)) (rd (off - 1)) v
  else if off = 0x2002 then outside (fld v 12 8) 2 24 || outside (fld v 3 0) 1 8
  else if off = 0x2003 then outside (fld v 10 0) 64 1792
  else if off = 0x2004 then n == 0
  else if off = 0x2400 then fld v 19 18 == 3
  else if off = 0x240B then decide (fld v 9 0 < 64)
  else if off = 0x240E then decide (65535 < n)
  else if off = 0x240F then n == 0
  else if off = 0x2410 then outside (fld v 10 0) 1 1024
  else if 0x2440 ≤ off ∧ off < 0x2480 then decide (16 < fld v 4 0)
  else if off = 0x2800 then outside (fld v 2 0) 1 4
  else if off = 0x2C12 then outside (fld v 5 0) 1 32
  else if 0x2C40 ≤ off ∧ off < 0x2D40 ∧ off % 4 = 0 then decide (196608 < fld v 17 0)
  else if off = 0x3002 then outside (fld v 15 0) 10 60000 && fld v 15 0 != 0
  else if off = 0x3003 then outside (fld v 6 0) 1 64
  else if off = 0x3004 then fld v 3 0 == 0
  else if 0x3100 ≤ off ∧ off < 0x3300 then sqRefuses ((off - 0x3100) / 8) (off % 8) v
  else if off = 0x3403 then decide (v.toInt ≤ (rd 0x3404).toInt)
  else if off = 0x3404 then decide ((rd 0x3403).toInt ≤ v.toInt)
  else if off = 0x3405 then outside (fld v 6 0) 4 64
  else if off = 0x3406 then fld v 3 0 == 0
  else if off = 0x3407 then fld v 7 0 == 0
  else if off = 0x3408 then outside (fld v 11 0) 1 3600
  else if off = 0x3409 then outside (fld v 3 0) 1 8
  else if off = 0x3800 then fld v 15 0 == 0
  else false

/-- The counters that a control word's CNT_CLEAR clears (R177, R307, R332, R364, R392, R426, R459, R492, R493, R539, R559). -/
def clearedBy (off : Nat) : List Nat :=
  match off with
  | 0x0400 => [0x0409, 0x040A, 0x040B, 0x040C]
  | 0x0C08 => [0x0C04]
  | 0x1001 => [0x1008, 0x1009, 0x100B, 0x100C]
  | 0x1408 => [0x1402, 0x1406, 0x1407]
  | 0x1801 => [0x1824]
  | 0x1C01 => (List.range 7).map (0x1C02 + ·) ++ (List.range 7).flatMap (fun l => [0x1C15 + 8 * l, 0x1C16 + 8 * l])
  | 0x2018 => 0x2011 :: (List.range 5).map (0x2013 + ·)
  | 0x241E => (List.range 5).map (0x2419 + ·)
  | 0x2807 => [0x2804, 0x2805, 0x2806]
  | 0x2C00 => [0x2C0C, 0x2C0D, 0x2C0E, 0x2C0F, 0x2C1E]
  | 0x3411 => [0x340D, 0x340E, 0x340F, 0x3410]
  | 0x3C02 => [0x3C04, 0x3C05, 0x3C06] ++ (List.range 24).map (0x3C10 + ·)
  | _ => []

/-- The bit of a control word that is CNT_CLEAR. -/
def clearBit (off : Nat) : Nat := if off = 0x0400 then 11 else if off = 0x1801 then 18 else 19

/-- The effect of CNT_CLEAR. -/
def Bn.cntClear (b : Bn) (off : Nat) : Bn :=
  let b1 := b.clearWords (clearedBy off)
  if off = 0x1801 then b1.bit 0x180F 7 false
  else if off = 0x2C00 then (List.range 64).foldl (fun b q => b.wr (qStat q) (setFld (b.rd (qStat q)) 11 0 0)) b1
  else if off = 0x3C02 then (List.range 128).foldl (fun b n => b.wr (0x3D00 + n) (setFld (b.rd (0x3D00 + n)) 7 0 0)) b1
  else b1

/-- RATE_W changed: windows keep the newest results, and entries that become RATE_INVALID lose their alarm (R529, R531). -/
def Bn.rateWChanged (b : Bn) : Bn :=
  let w := b.rateW
  let b1 := b.mapTherm (fun t => { t with win := t.win.map (fun p => (p.1, p.2.drop (p.2.length - w))) })
  b1.mapTherm (fun t =>
    let short (e : Nat) : Bool := decide ((mget t.win e []).length < w)
    { t with
      rate := t.rate.filter (fun p => !short p.1), hiRun := t.hiRun.filter (fun p => !short p.1)
      loRun := t.loRun.filter (fun p => !short p.1), alarms := t.alarms.filter (fun e => !short e) })

/-- A switch of CTRL to another source (R465, R493). -/
def Bn.switchCtrl (b : Bn) (src : Nat) : Bn :=
  if b.power.ctrlIn = src then b else (b.mapPower (fun p => { p with ctrlIn := src })).bump 0x1406

/-- The bank counts as holding staged content (R449, R580). -/
def Bn.toStaging (b : Bn) : Bn := b.mapStage (fun s => { s with st := .staging })

/-- LOAD_DATA: one image word; a proved bank must then be proved again (R252, R254, R449). -/
def Bn.loadData (b : Bn) (w : Word) : Bn × Status :=
  let r := b.loadOne w
  if r.2 = .ok ∧ b.stage.st = .proved then (r.1.toStaging, r.2) else r

/-- A written word takes effect: its set bits, its cleared bits, what the write starts. The value is in range. Answers the status
of words whose own rule can refuse them (R165, R252, R309, R389, R391, R465). `fr` gives free values. -/
def Bn.applyWord (b : Bn) (v : Variant) (fr : Nat → Nat) (off : Nat) (val : Word) : Bn × Status :=
  let merged := merge (b.rd off) val (setMask off) &&& ~~~ (val &&& wof (w1cMask off))
  if off = 0x0400 then
    let b1 := b.wr off (setFld merged 11 11 0)
    (if wbit val 11 then b1.cntClear off else b1, .ok)
  else if off = 0x0C02 then
    let b1 := b.wrKeep off merged
    (if fld merged 11 0 = 0 then b1.mapBoot (fun x => { x with deadlineRun := false }) else b1, .ok)
  else if off = 0x1401 then
    if b.power.dev ≠ .ready then (b, .denied) else ((b.wr off merged).switchCtrl (fld merged 19 18), .ok)
  else if off = 0x1801 then
    let b1 := if wbit val 19 then b.bit off 19 true else b
    (if wbit val 18 then b1.cntClear off else b1, .ok)
  else if 0x1810 ≤ off ∧ off < 0x1814 then
    ((b.wr off merged).mapTime (fun t => { t with t1Mask := t.t1Mask ||| 2 ^ (off - 0x1810) }), .ok)
  else if off = 0x181F then b.writeT4 val
  else if h : 0x1C10 ≤ off ∧ off < 0x1C48 ∧ off % 8 = 1 then b.writeLcfg ⟨(off - 0x1C10) / 8, by omega⟩ val
  else if h : 0x1C10 ≤ off ∧ off < 0x1C48 ∧ off % 8 = 2 then b.writeLinj ⟨(off - 0x1C10) / 8, by omega⟩ val
  else if off = 0x2000 then
    (b.mapLease (fun l => { l with diverge := l.diverge && !wbit val 13, tailDrop := l.tailDrop && !wbit val 6 }), .ok)
  else if off = 0x2400 then b.acqCmd (fld val 19 18)
  else if off = 0x3001 then (b.writeHkcCtrl v fr val, .ok)
  else if off = 0x3401 then ((b.wr off merged).alertSync 0, .ok)
  else if off = 0x3405 then ((b.wr off merged).rateWChanged, .ok)
  else if off = 0x4000 then (if wbit val 19 then b.loadReset else (b, .ok))
  else if off = 0x4001 then (b.mapLoader (fun l => { l with goRefused := l.goRefused && !wbit val 14 }), .ok)
  else if off = 0x4003 then b.loadData val
  else if clearedBy off ≠ [] then (if wbit val (clearBit off) then b.cntClear off else b, .ok)
  else (b.wrKeep off merged, .ok)

/-- Whether an SLN-2 lacks a word of the LANES block, so that a write finds no address (R392). -/
def noLaneWord (sln2 : Bool) (off : Nat) : Bool :=
  sln2 && decide (0x1C05 ≤ off) && decide (off < 0x2000) && (decide (off ≤ 0x1C09) || decide (0x1C38 ≤ off))

/-- Whether an offset lies in the compositor memory window (R205). -/
def inWindow_ (off : Nat) : Bool := decide (0x8000 ≤ off) && decide (off < 0x8A00)

/-- Whether the word that FORME_CTRL or LOAD_DATA is stands under the rule of MINIMAL (R254, R442). -/
def loadWord (off : Nat) : Bool := off == 0x4000 || off == 0x4003

/-! ## The window -/

/-- The compositor that COMP_SEL names, and whether it shows the live bank. -/
def Bn.compSel (b : Bn) : Nat × Bool := (fld (b.rd 0x3C00) 6 0, wbit (b.rd 0x3C00) 19)

/-- What a window access meets first: the compositor off, RETAINED or FAILED (R205, R580). -/
def Bn.windowGate (b : Bn) : Option Status :=
  match (b.dom b.compSel.1).power with
  | .on => none
  | .failed => some .failedDomain
  | _ => some .asleep

/-- A window read (R202, R205): the codeword is decoded, and the flags follow; a word that cannot be read reads as 0 with CHECK. -/
def Bn.windowRead (b : Bn) (off : Nat) : Bn × Status × Word :=
  match b.windowGate with
  | some st => (b, st, 0)
  | none =>
    let (n, live) := b.compSel
    let i := off - 0x8000
    let c := b.comp n
    let kind := if i < 2048 then 1 else 2
    let j := if i < 2048 then i / 4 else (i - 2048) / 4
    let k := i % 4
    let data := if live then b.memData kind n j
      else if kind = 1 then (List.range 4).foldl (fun a q => a * 2 ^ 20 + (b.stagedTableWord n (4 * j + q)).toNat) 0
      else (mget c.insStaged (2 * j) 0).toNat * 2 ^ 40 + (mget c.insStaged (2 * j + 1) 0).toNat
    let bank := (if kind = 1 then c.tblBank else c.insBank) == live
    let f := mget c.flips (memKey kind bank j) 0
    if f = 0 then (b, .ok, wof (data / 2 ^ (20 * (3 - k))))
    else
      let (o, x) := rsRead (memAddr kind n bank j) data f
      match o with
      | .clean => (b, .ok, wof (x / 2 ^ (20 * (3 - k))))
      | .corrected => (b.bit (0x3D00 + n) 14 true, .ok, wof (x / 2 ^ (20 * (3 - k))))
      | _ => ((b.bit (0x3D00 + n) 15 true).bump 0x3C06, .check, 0)

/-- A WRITE or STAGE of a window word (R204, R205, R316, R454, R580). -/
def Bn.windowWrite (b : Bn) (off : Nat) (val : Word) : Bn × Status :=
  let (n, live) := b.compSel
  let i := off - 0x8000
  match b.windowGate with
  | some st => (b, st)
  | none =>
    if live = true ∨ 2040 ≤ i then (b, .readOnly)
    else if b.stage.st = .armed ∨ (b.comp n).copyTbl.isSome = true then (b, .busy)
    else
      let c := b.comp n
      let bank := !c.tblBank
      (((b.setComp n { c with
        tblStaged := mput c.tblStaged i val 0, tblDirty := true, flips := mdel c.flips (memKey 1 bank (i / 4)) })).toStaging, .ok)

/-! ## Access to one word -/

/-- WRITE of one BN word (R18, R19, R392, R436, R442, R456). -/
def Bn.writeWord (b : Bn) (v : Variant) (fr : Nat → Nat) (off : Nat) (val : Word) : Bn × Status :=
  if inWindow_ off then b.windowWrite off val
  else if (rowOf bnMap off).isNone ∨ noLaneWord (v == .sln2) off = true then (b, .badAddress)
  else if loadWord off = true ∧ b.power.dev = .minimal then (b, .denied)
  else if b.failedBlock off then (b, .failedDomain)
  else if b.asleep off then (b, .asleep)
  else if stMask off ≠ 0 then (b, .denied)
  else if setMask off = 0 ∧ w1cMask off = 0 then (b, .readOnly)
  else if bnRefuses b.rd off val then (b, .range)
  else b.applyWord v fr off val

/-- STAGE of one BN word (R18, R19, R447, R454-R456). -/
def Bn.stageWord (b : Bn) (v : Variant) (off : Nat) (val : Word) : Bn × Status :=
  if inWindow_ off then b.windowWrite off val
  else if (rowOf bnMap off).isNone ∨ noLaneWord (v == .sln2) off = true then (b, .badAddress)
  else if b.stage.st = .armed then (b, .busy)
  else if b.failedBlock off then (b, .failedDomain)
  else if setMask off = 0 ∧ w1cMask off = 0 then (b, .readOnly)
  else if bnRefuses b.stagedRd off val then (b, .range)
  else
    let w := merge (b.stagedRd off) val (setMask off ||| w1cMask off)
    (b.toStaging.mapStage (fun s => { s with words := s.words.filter (fun p => p.1 != off) ++ [(off, w)] }), .ok)

/-- Whether a READ at level OPEN may show a word (R437). -/
def openReads (off : Nat) : Bool :=
  decide (off < 0x0800) || (decide (0x0C00 ≤ off) && decide (off < 0x1000)) || off == 0x2000 || off == 0x1800 || off == 0x2401 || off == 0x2C01

/-- READ of one BN word, live or in the staged view (R18, R432, R436, R437, R447, R456). -/
def Bn.readWord (b : Bn) (v : Variant) (gradeH : Bool) (n : Nat) (staged : Bool) (off : Nat) : Bn × Status × Word :=
  if inWindow_ off then
    if b.sess.level = .open then (b, .denied, 0) else b.windowRead off
  else if (rowOf bnMap off).isNone then (b, .badAddress, 0)
  else if b.sess.level = .open ∧ openReads off = false then (b, .denied, 0)
  else if b.failedBlock off then (b, .failedDomain, 0)
  else if b.asleep off then
    match pantryBn off with
    | some w => (b, .okRetained, b.pw w)
    | none => (b, .asleep, 0)
  else
    let w := b.view v gradeH n off
    match staged, b.stage.words.find? (fun p => p.1 == off) with
    | true, some p => (b, .ok, merge w p.2 (setMask off ||| w1cMask off))
    | _, _ => (b, .ok, w)

/-- An access to one BN word outside a packet, with free values at hand. -/
def State.wordAccess (s : State) (u : BnId) (f : Bn → (Nat → Nat) → Bn × Status) : State :=
  let r := s.draw 4
  r.1.access u (fun b => f b r.2)

/-- REGISTER_WRITE: one word of a parameter address written, or staged (R19, R433). An FV target is applied by the die when the
unit holds a lease and its port is the reference port (R24, R132); target 7 reaches every die present. -/
def State.registerWrite (s : State) (u : BnId) (staged : Bool) (addr val : Word) : State :=
  let target := fld addr 19 17
  let off := fld addr 16 0
  if target = 6 then
    s.wordAccess u (fun b fr => if staged then b.stageWord s.variant off val else b.writeWord s.variant fr off val)
  else
    let ds := targetDies s.dies target
    if ds.isEmpty then s.access u (fun b => (b, .badAddress))
    else if (s.bn u).executes = false then s
    else
      ds.foldl (fun (acc : State × Bool) d =>
        let before := (acc.1.bn u).last
        let x := acc.1.fvDirect u d (fun f => if staged then f.stage off val else f.write s.variant off val)
        let st := (x.bn u).last
        let y := if st.done = true ∧ staged = true then
            x.mapBn u (fun b => b.mapStage (fun g => { g with
              st := .staging
              fvDies := if g.fvDies.any (fun p => p.1 == d) then g.fvDies else g.fvDies ++ [(d, (x.fv d).epoch)]
              fvWords := g.fvWords.filter (fun p => !(p.1 == d && p.2.1 == off)) ++ [(d, off, val)] }))
          else if st.done then x.mapBn u (fun b => b.keepFv d off val)
          else x
        (if acc.2 then y.mapBn u (fun b => { b with last := before }) else y, acc.2 || !st.done)) (s, false) |>.1

/-- REGISTER_WRITE (R19). -/
def execRegisterWrite (u : BnId) (staged : Bool) (addr val : Word) (s : State) : Host.Outcome State Fault Refusal :=
  .next (s.registerWrite u staged addr val)

/-- LOAD_DATA (R252). -/
def execLoadData (u : BnId) (val : Word) (s : State) : Host.Outcome State Fault Refusal := .next (s.access u (fun b => b.loadData val))

/-- WINDOW_TABLE_WRITE: a table word of the staged bank of the compositor that COMP_SEL names (R580). -/
def execWindowTableWrite (u : BnId) (_staged : Bool) (idx : Fin 2048) (val : Word) (s : State) : Host.Outcome State Fault Refusal :=
  .next (s.access u (fun b => b.windowWrite (0x8000 + idx.val) val))

/-- CLK_SEL written with this CTRL_SRC (R465, R493). -/
def execClkSel (u : BnId) (src : BitVec 2) (s : State) : Host.Outcome State Fault Refusal :=
  .next (s.wordAccess u (fun b fr => b.writeWord s.variant fr 0x1401 (wof (src.toNat * 2 ^ 18))))

/-- The control word of a block with CNT_CLEAR. -/
def cntWord : CntBlock → Nat
  | .time => 0x1801
  | .lanes => 0x1C01
  | .lease => 0x2018
  | .acq => 0x241E
  | .sheet => 0x2807
  | .galley => 0x2C00
  | .hkc => 0x3001
  | .therm => 0x3411
  | .comp => 0x3C02
  | .power => 0x1001
  | .clock => 0x1408
  | .session => 0x0400
  | .boot => 0x0C08

/-- The control word of an FV block with CNT_CLEAR (R109, R147, R148). -/
def fvCntWord : FvCntBlock → Nat
  | .tdc => 0x1C00
  | .tray => 0x200C
  | .ligature => 0x2804

/-- CNT_CLEAR written 1, the other fields of the word as they stand (R109, R147, R210, R307, R332, R364, R392, R426, R492, R493, R521, R539, R559). -/
def execCntClear (t : CntTarget) (s : State) : Host.Outcome State Fault Refusal :=
  match t with
  | .bn u blk =>
    .next (s.wordAccess u (fun b fr =>
      let off := cntWord blk
      let bit := if off = 0x3001 then 17 else clearBit off
      b.writeWord s.variant fr off (wof ((b.rd off &&& wof (setMask off)).toNat ||| 2 ^ bit))))
  | .fv u d blk =>
    .next (s.fvDirect u d (fun f => f.write s.variant (fvCntWord blk) (wof ((f.rd (fvCntWord blk)).toNat ||| 2 ^ 19))))

end Sys2Proof.Machine
end

