-- ==== Sys2Proof/Machine/Stage.lean ====
section
/-! DEFINITION. The staged bank (R447-R455): PROOF and its rules (R256, R295, R323, R363, R400, R449, R450), IMPRESS and what
happens at its crossing (R260-R262, R316, R451, R545), DISCARD (R453). -/

namespace Sys2Proof.Machine

/-- The rule with a code, when it fails. -/
def ruleFails (code : Nat) (ok : Bool) : List Nat := if ok then [] else [code]

/-- The header words that the sheet and acquisition rules read: of the staged image, else of the live forme (R323, R363). -/
def Bn.formeHdr (b : Bn) : Option (Nat → Word) :=
  if b.loader.isLoaded then some b.loader.word
  else if b.loader.live then some (fun i => b.rd (0x4040 + i))
  else none

/-- What R362 asks of a standard forme: LANES at least, and whether the payload is compressed. -/
def formeCoding (id : Nat) : Option (Nat × Bool) :=
  if id = 0x2 then some (2, true)
  else if id = 0x4 then some (3, true)
  else if id = 0x8 ∨ id = 0x18 then some (4, true)
  else if id = 0x102 ∨ id = 0x104 ∨ id = 0x108 ∨ id = 0x202 ∨ id = 0x204 ∨ id = 0x208 then some (2, false)
  else none

/-- The galley rules (R295). -/
def Bn.galFails (b : Bn) : List Nat :=
  let w := b.stagedRd
  let sum := (List.range 64).foldl (fun a q => a + fld (w (qCfg q)) 17 0) 0
  let h (k : Nat) : Nat := (w (0x2C03 + 2 * k)).toNat
  let l (k : Nat) : Nat := (w (0x2C04 + 2 * k)).toNat
  ruleFails 0x50 (decide (sum + b.gal.leaked ≤ 196608)) ++
  ruleFails 0x51 ((List.range 64).all (fun q => decide (fld (w (qCfg q + 1)) 2 0 ≤ fld (w (qCfg q + 1)) 5 3)) &&
    ([1, 2, 3] : List Nat).all (fun k => decide (l k < h k)) && decide (h 1 < h 2) && decide (h 2 < h 3))

/-- The acquisition rules (R323). -/
def Bn.acqFails (b : Bn) : List Nat :=
  let w (o : Nat) : Nat := (b.stagedRd o).toNat
  let hdr := b.formeHdr
  let ring := w 0x2410
  ruleFails 0x60 (match hdr with
    | some h => decide (fld (h 12) 11 0 ≤ 2040)
    | none => true) ++
  ruleFails 0x61 (decide (w 0x240C + w 0x240D ≤ ring) && decide (ring ≤ 1024) && decide (1 ≤ ring)) ++
  ruleFails 0x62 (decide (w 0x240E ≤ 65535)) ++
  ruleFails 0x63 (decide (w 0x240D + w 0x240E + 1 ≤ w 0x240F) && decide (w 0x240F ≤ 1048575)) ++
  ruleFails 0x64 (decide (w 0x2414 ≤ w 0x2417) && decide (1 ≤ w 0x2415) && decide (1 ≤ w 0x2416)) ++
  ruleFails 0x65 (!wbit (b.stagedRd 0x2412) 0 ||
    (fld (b.stagedRd (qCfg 32)) 17 0 != 0 && fld (b.stagedRd (qCfg 35)) 17 0 != 0)) ++
  ruleFails 0x66 (match hdr with
    | some h => decide (fld (h 10) 9 2 + 32 ≤ w 0x240B) && decide (w 0x240B ≤ 1023)
    | none => true)

/-- The sheet rules (R362, R363). -/
def Bn.sheetFails (b : Bn) : List Nat :=
  let w := b.stagedRd 0x2800
  match b.formeHdr with
  | none => []
  | some h =>
    match formeCoding (h 17).toNat with
    | none => []
    | some (n, c) => ruleFails 0x70 (decide (n ≤ fld w 2 0)) ++ ruleFails 0x71 (wbit w 19 == c)

/-- The lease rule (R400). -/
def Bn.leaseFails (b : Bn) (v : Variant) : List Nat :=
  ruleFails 0x80 (v == .sln2 || decide (64 * fld (b.stagedRd 0x2002) 12 8 + (b.stagedRd 0x2003).toNat + 256 ≤ 2048))

/-- Whether the twin rule is evaluated (R450). -/
def Bn.twinRule (b : Bn) (v : Variant) : Bool :=
  v != .sln2 && (b.lease.role == .active || b.lease.role == .shadow) && !b.xl.down && (b.partnerRole == some 0 || b.partnerRole == some 1)

/-- The staged view of a word of an FV die. -/
def Fv.stagedRd (f : Fv) (off : Nat) : Word :=
  match f.staged.find? (fun p => p.1 == off) with
  | some p => p.2
  | none => f.rd off

/-- The FV rules, over the dies present that have their supplies (R61, R106, R450). -/
def State.fvFails (s : State) : List Nat :=
  let fs := (s.dies.map (fun d => s.fv d)).filter (fun f => f.powered)
  ruleFails 0x20 (fs.all (fun f => (List.range 4).all (fun t =>
    decide ((f.stagedRd (0x0804 + t)).toNat ≤ (f.stagedRd (0x0800 + t)).toNat)))) ++
  ruleFails 0x21 ((List.range 16).all (fun k =>
    decide ((fs.filter (fun f => wbit (f.stagedRd (0x1C10 + k)) 19)).length ≤ 1)))

/-- The epoch and holder rules of staged FV content (R450). -/
def State.contentFails (s : State) (b : Bn) : List Nat :=
  ruleFails 0x11 (b.stage.fvDies.all (fun p => (s.fv p.1).epoch == p.2)) ++ ruleFails 0x12 (!b.fvContent || b.holds)

/-- Every TBL_CRC is up to date (R448, R449). -/
def Bn.freshCrcs (b : Bn) : Bn := (List.range 128).foldl (fun b n => b.tblCrcs n) b

/-- The FORM rules that a bank fails with the staged forme (R256, R449): rule 42h alone while it loads. -/
def Bn.formeRules (b : Bn) (v : Variant) : List Nat :=
  if b.loader.st = .loading then [0x42] else if b.loader.isLoaded then b.formeFails v else []

/-- The rules that fail, ascending (R450), on a die with the domains of the forme's use mask up. -/
def State.proofFails (s : State) (b : Bn) : List Nat :=
  ruleFails 0x10 (!b.twinRule s.variant || b.stagedCrc false == (b.xl.partnerTwin.getD 0) / 2) ++ s.contentFails b ++ s.fvFails ++
    b.formeRules s.variant ++ b.galFails ++ b.acqFails ++ b.sheetFails ++ b.leaseFails s.variant

/-- The reply data of an evaluated PROOF (R449): the codes two to a word. -/
def proofData (skipped incl : Bool) (fails : List Nat) : List Word :=
  wof (b2n fails.isEmpty * 2 ^ 19 + b2n skipped * 2 ^ 18 + b2n incl * 2 ^ 17 + fails.length) ::
    (List.range 14).map (fun i => wof (fails.getD (2 * i) 0 * 256 + fails.getD (2 * i + 1) 0))

/-- A bank and a forme once evaluated: `ok` when no rule fails (R449). -/
def Bn.proved (b : Bn) (ok skipped : Bool) (tag : Nat) (fails forme doms : List Nat) : Bn :=
  let incl : Bool := b.loader.st != .empty
  let b1 := b.mapStage (fun g => { g with
    st := if ok then .proved else .staging
    goTag := if ok then tag else g.goTag
    formeIn := ok && b.loader.isLoaded
    twinSkipped := skipped
    lastRule := fails.headD 0 })
  b1.mapLoader (fun x => { x with
    st := if x.isLoaded then (if ok then .proved else .loaded) else x.st
    crcOk := if x.isLoaded then x.crcMatch else x.crcOk
    sealOk := if x.isLoaded then x.sealMatch else x.sealOk
    lastRule := if incl then forme.headD 0 else x.lastRule
    proofDoms := if ok then x.proofDoms ++ doms else x.proofDoms })

/-- The domains of a loaded forme's use mask that are off come up (R207). -/
def Bn.maskUp (b : Bn) : Bn × List Nat :=
  if b.loader.isLoaded then b.domsUp (maskDoms (fun k => b.loader.word (3 + k))) else (b, [])

/-- The evaluation of a PROOF (R207, R449, R450) on a die with every TBL_CRC up to date: the die after it, the status, the reply
data. The domains of a forme's use mask that are off come up when every other rule passes. -/
def State.proofOn (s : State) (b0 : Bn) (tag : Nat) : Bn × Status × List Word :=
  let up := b0.maskUp
  let fails := s.proofFails up.1
  let skipped := !up.1.twinRule s.variant
  let ok := fails.isEmpty
  ((if ok then up.1 else b0).proved ok skipped tag fails (up.1.formeRules s.variant) up.2, if ok then .ok else .proofFail,
    proofData skipped (b0.loader.st != .empty) fails)

/-- A PROOF (R442, R449). -/
def State.proofOf (s : State) (u : BnId) (tag : Nat) : Bn × Status × List Word :=
  let b := (s.bn u).freshCrcs
  if b.power.dev = .minimal then (b, .denied, [])
  else if b.stage.st = .armed then (b, .busy, [])
  else if b.stage.st = .empty ∧ b.loader.st = .empty then (b, .nothingStaged, [])
  else s.proofOn b tag

/-- IMPRESS (R261, R442, R451). -/
def Bn.impressAsk (b : Bn) (tag n : Nat) : Bn × Status :=
  if b.power.dev = .minimal then (b, .denied)
  else if b.stage.st = .armed then (b, .busy)
  else if b.stage.st = .empty ∧ b.loader.st = .empty then (b, .nothingStaged)
  else if b.stage.st ≠ .proved then (b, .proofFail)
  else if n < b.now + 64 ∨ b.now + 2 ^ 20 < n then (b, .range)
  else if b.fullIn = true ∧ b.acq.phase ≠ .idle then (b, .denied)
  else if b.fvContent = true ∧ b.holds = false then (b, .notActive)
  else (b.arm n tag, .ok)

/-- Woken compositors and cases outside the live use mask switch off (R474). -/
def Bn.dropWoken (b : Bn) : Bn :=
  let keep := b.liveDoms
  ((List.range 136).filter (fun n => (b.dom n).woken && !keep.contains n)).foldl Bn.compOff b

/-- The bank after it is emptied: nothing staged (R451, R453). -/
def Stage.emptied (g : Stage) (held : List (Nat × Word)) : Stage :=
  { g with st := .empty, words := held, fvDies := [], fvWords := [], formeIn := false }

/-- DISCARD (R253, R453, R580). -/
def Bn.discard (b : Bn) : Bn × Status :=
  if b.stage.st = .armed ∧ b.stage.armedN < b.now + 40 then (b, .busy)
  else
    let st := if b.fvContent = true ∧ b.holds = false then Status.notActive else .ok
    let b1 := if b.holds then b.stage.fvDies.foldl (fun b p => b.ask p.1 1 0x0403 0x20000#20 .none) b else b
    let until_ := b.xc + 16
    let b2 := b1.dirtyComps.foldl (fun b n => b.setComp n ((b.comp n).dropStaged until_)) b1
    let b3 := b2.discardLoad.dropWoken
    (b3.mapStage (fun g => { g.emptied [] with restoreArmed := false }), st)

/-- Whether the bank changes a settings word (R316). -/
def Bn.settingsChange (b : Bn) : Bool :=
  ([0x240C, 0x240D, 0x240E, 0x240F, 0x2410, 0x2411] : List Nat).any (fun o => b.stagedRd o != b.rd o)

/-- The boundary of N (R451): the tables and the forme, the staged words, the records, the bank empty. `fr` gives free values. -/
def Bn.impressNow (b : Bn) (v : Variant) (fr : Nat → Nat) : Bn :=
  let g := b.stage
  let full := b.fullIn
  let swapped := (if g.formeIn then b.loader.mask else []) ++ b.dirtyComps
  let b1 := b.impressForme g.formeIn
  let b2 := if b.settingsChange then
      (b1.useMask.filter (fun n => !swapped.contains n)).foldl (fun b n => b.setComp n ((b.comp n).swapTables (b.xc + 16))) b1
    else b1
  let held := g.words.filter (fun p => b.asleep p.1)
  let go := g.words.filter (fun p => !b.asleep p.1 && !b.failedBlock p.1)
  let b3 := (go.foldl (fun b p => (b.applyWord v fr p.1 p.2).1) b2).dropWoken
  let b4 := g.fvWords.foldl (fun b p => b.keepFv p.1 p.2.1 p.2.2) b3
  let b5 := (b4.wrN 0x080B g.armedTag).wrXc 0x080C g.armedN
  let b6 := b5.mapStage (fun x => { x.emptied held with
    missFrom := some g.armedN, restoreArmed := x.restoreArmed && !full })
  (if full then b6.success (fr 400) else b6).endEntry 4

/-- IMPRESS_APPLY (R451). -/
def execImpressApply (u : BnId) (s : State) : Host.Outcome State Fault Refusal :=
  let b := s.bn u
  if s.hasBn u = true ∧ b.stage.st = .armed ∧ b.stage.armedN ≤ b.now ∧ b.executes = true then
    let r := s.draw 4
    .next (r.1.mapBn u (fun b => b.impressNow s.variant r.2))
  else .next s

end Sys2Proof.Machine
end

