-- ==== Sys2Proof/Machine/Pair.lean ====
section
/-! DEFINITION. The pair (R383-R387, R393-R421, R171, R172, R448): cross-link frames, XLINK_DOWN, anchors, TWIN messages, shadow
entry, planned handover, lease expiry, CLAIM. A row that names a message is the act of the unit that sends it; what the message
does at its receiver follows when the frame that carries it comes into force (Cross.lean). -/

namespace Sys2Proof.Machine

/-- Whether a unit of a pair runs its crossings (R393): its crossing events have an effect. -/
def State.paired (s : State) (u : BnId) : Bool :=
  s.variant != .sln2 && (s.bn u).power.dev.crosses && !(s.bn u).power.clkWait

/-- An act of a unit of a pair. -/
def State.pairAct (s : State) (u : BnId) (f : Bn → Bn) : State := if s.paired u then s.mapBn u f else s

/-- The partner's frame of the previous crossing: of the two on the line, the one that names it. -/
def Bn.frameFor (p : Bn) (prev : Nat) : Option Nat :=
  match p.xl.out, p.xl.outPrev with
  | some f, some g => if f / 2 ^ 240 ≠ prev % 2 ^ 16 ∧ g / 2 ^ 240 = prev % 2 ^ 16 then some g else some f
  | some f, none => some f
  | none, some g => if g / 2 ^ 240 = prev % 2 ^ 16 then some g else none
  | none, none => none

/-- A unit fails its own check over the interval from the first mismatched sheet to the current crossing (R403). -/
def Bn.failsCheck (b : Bn) : Bool :=
  decide ((b.rd 0x3C03).toNat < b.xc - b.lease.a1 + 8) || wbit (b.rd 0x2C01) 17 ||
    (List.range 128).any (fun n => b.used n && wbit (b.rd (0x3D00 + n)) 15)

/-- The evaluation (R404): the unit gives up, or waits for its partner to do so. -/
def Bn.evaluateOwn (b : Bn) : Bn :=
  if b.failsCheck then
    (b.mapLease (fun l => { l with gaveUp := true })).roleNext (if b.lease.role = .shadow then .failed else .quiet)
  else b.mapLease (fun l => { l with evalAt := some b.xc })

/-- A comparison that finds a mismatch (R402, R403). -/
def Bn.mismatch (b : Bn) (a : Asm) : Bn :=
  let run := (b.rd 0x2010).toNat
  let b1 := (b.bumpN 0x2010 1 4).bump 0x2011
  let b2 := if run = 0 then (b1.wr 0x2012 a.seq).mapLease (fun l => { l with a1 := a.xc }) else b1
  if run + 1 = fld (b.rd 0x2002) 3 0 ∧ (b.lease.role = .active ∨ b.lease.role = .shadow) then b2.evaluateOwn else b2

/-- A comparison that finds a match (R402): JUNCTION follows, but for a COLD unit. -/
def Bn.match_ (b : Bn) (a : Asm) : Bn :=
  let b1 := b.wr 0x2010 0
  if b.lease.role = .cold then b1
  else (b1.wr 0x200B (a.seq + 1#20)).mapLease (fun l => { l with jvalid := true })

/-- The comparison with a used frame (R401, R402): the frame carries the check of the sheet assembled two crossings ago. -/
def Bn.compare (b : Bn) (f : Nat) : Bn :=
  match b.asmAt (b.xc - 2) with
  | some a =>
    if f.testBit 232 = true ∧ ((a.active = true ∧ frRole f = 1) ∨ (a.shadow = true ∧ frRole f = 0)) then
      (if bitsOf f 231 200 = a.check then b.match_ a else b.mismatch a)
    else b
  | none => b

/-- What the unit keeps of the partner's lease (R412): the crossing after the last frame with LH = 1, or the first one named
with LH = 0 after it. -/
def LeaseSt.track (l : LeaseSt) (lh : Bool) (x : Nat) : LeaseSt :=
  if lh then { l with lhSeen := some x, xOld := some (x + 1) }
  else if l.lhSeen.isSome then { l with lhSeen := Option.none, xOld := some x }
  else l

/-- The cross-link frame of the previous crossing is taken (R386, R387). -/
def Bn.takeFrame (b : Bn) (f : Nat) (blocksOk inWindow : Bool) : Bn :=
  let b1 := { b with xl := { b.xl with took := true } }
  if (b.lane 6).blockLock = false ∨ blocksOk = false ∨ crc16Frame (BitVec.ofNat 256 (f - f % 2 ^ 16)) ≠ f % 2 ^ 16 then b1.bump 0x1C05
  else if f / 2 ^ 240 % 2 ^ 16 ≠ b.time.prev % 2 ^ 16 then b1.bump 0x1C06
  else if inWindow = false then b1.bump 0x1C07
  else
    (({ b1 with xl := { b1.xl with usedNow := some f } }.wr 0x1C09 0).mapLease (fun l => l.track (frLh f) b.time.prev)).compare f

/-- CROSS_LINK_FRAME (R386). -/
def execCrossLinkFrame (u : BnId) (arrived blocksOk inWindow : Bool) (err : BitVec 256) (s : State) :
    Host.Outcome State Fault Refusal :=
  let b := s.bn u
  match (s.bn u.other).frameFor b.time.prev with
  | some f =>
    .next (if s.paired u = true ∧ arrived = true ∧ b.xl.took = false ∧ b.domOn 158 = true ∧ (b.lane 6).los = false ∧
        (b.lane 6).st ≠ .prbs then
      s.mapBn u (fun b => b.takeFrame ((BitVec.ofNat 256 f) ^^^ err).toNat blocksOk inWindow)
    else s)
  | none => .next s

/-- Whether XLINK_DOWN is to be set (R387). -/
def Bn.xlSilent (b : Bn) : Bool := decide (16 ≤ (b.rd 0x1C09).toNat) || (b.lane 6).los || (b.lane 6).lol

/-- The cross-link goes down (R387, R393, R418, R419). -/
def Bn.xlinkDown (b : Bn) : Bn :=
  if b.xl.down then (if (b.lane 6).los || (b.lane 6).lol then { b with xl := { b.xl with run := 0 } } else b)
  else
    let b1 := { b with xl := { b.xl with down := true, run := 0 } }.bump 0x1C08
    let b2 := if b.lease.role = .active then b1.dropEntry else if b.lease.join.code = 2 then b1.abortJoin else b1
    if b.lease.role = .shadow then b2.roleNext .cold else b2

/-- XLINK_DOWN (R387). -/
def execXlinkDown (u : BnId) (s : State) : Host.Outcome State Fault Refusal :=
  .next (s.pairAct u (fun b => if b.xlSilent then b.xlinkDown else b))

/-- XLINK_UP (R387). -/
def execXlinkUp (u : BnId) (s : State) : Host.Outcome State Fault Refusal :=
  .next (s.pairAct u (fun b =>
    if b.xl.down = true ∧ 64 ≤ b.xl.run ∧ (b.lane 6).los = false ∧ (b.lane 6).lol = false then
      { b with xl := { b.xl with down := false } }
    else b))

/-- Whether a data sheet exists for the current crossing (R308, R311). -/
def Bn.inRun (b : Bn) : Bool :=
  b.power.dev == .run && (b.acq.phase == .run || decide (b.now < b.acq.e))

/-- The causes of an anchor in the current crossing (R171), lowest code first. `src`: this unit is the source. -/
def Bn.ancCauses (b : Bn) (src : Bool) : List Nat :=
  let other : Bool := b.anchors.lastSrc == some (b.unit == .a)
  let base := (if b.now % 4096 = 0 then [0] else []) ++ (if b.acq.sXc = b.xc then [1] else [])
  let own := if b.anchors.timeEvent.isSome then [3] else []
  let role : Bool := src && (b.anchors.roleEvent.isSome || (other && !(base ++ own).isEmpty))
  base ++ (if role then [2] else []) ++ own

/-- The anchor of the current crossing from the unit's own time service (R173). -/
def Bn.ownAnchor (b : Bn) (cause : Nat) : Anc :=
  ⟨cause, b.time.step != 2, b.time.xcSync, b.unit == .b, b.now, b.time.rate, b.time.t⟩

/-- A unit without the lease takes its own time service for the sheet of four crossings ago (R172): when no anchor came, and
the partner is not lease holder or the cross-link is down. The sheet names the role change when the source changes. -/
def Bn.ancFallback (b : Bn) : Bn :=
  let at4 (a : Anc) : Bool := (a.counter + 4) % 2 ^ 48 == b.now
  match b.anchors.cand.find? at4 with
  | none => b
  | some a =>
    let partner : Bool := !b.xl.down && (b.xl.force.map frLh == some true)
    let b1 := { b with anchors := { b.anchors with cand := b.anchors.cand.filter (fun x => !at4 x) } }
    if b.anchors.due.any at4 = true ∨ partner = true then b1
    else
      let a1 := if b.anchors.lastSrc = some (!a.src) then { a with cause := 2 } else a
      { b1 with anchors := { b1.anchors with due := b1.anchors.due ++ [a1], lastSrc := some a.src } }

/-- The anchor service in one crossing (R171, R172, R385): the source decides, and sends; another unit keeps what it would take. -/
def Bn.anchorStep (b : Bn) (sln2 : Bool) : Bn :=
  let old (a : Anc) : Bool := decide ((b.now + 2 ^ 48 - a.counter) % 2 ^ 48 ≤ 4)
  let b0 := { b with anchors := { b.anchors with due := b.anchors.due.filter old, cand := b.anchors.cand.filter old } }
  let b1 := b0.ancFallback
  let src : Bool := b.holds
  let seen : Bool := (b1.anchors.due ++ b1.anchors.cand).any (fun a => a.counter == b.now)
  match if b.inRun = true ∧ seen = false then b1.ancCauses src else [] with
  | [] => b1
  | c :: _ =>
    let a := b1.ownAnchor c
    if src then
      { b1 with
        anchors := { b1.anchors with due := b1.anchors.due ++ [a], lastSrc := some a.src, timeEvent := none, roleEvent := none }
        xl := if sln2 then b1.xl else { b1.xl with anc := b1.xl.anc ++ [ancMsg a] } }
    else { b1 with anchors := { b1.anchors with cand := b1.anchors.cand ++ [a], timeEvent := none } }

/-- ANCHOR: the crossing's act of the anchor service (R171, R172, R385). -/
def execAnchor (u : BnId) (s : State) : Host.Outcome State Fault Refusal :=
  let b := s.bn u
  .next (if s.hasBn u = true ∧ b.power.dev.crosses = true ∧ b.power.clkWait = false then
    s.mapBn u (fun b => b.anchorStep (s.variant == .sln2))
  else s)

/-- TWIN: a unit sends STAGED_CRC after a change and every 64 crossings (R448). -/
def Bn.twinMsg (b : Bn) : Bn :=
  let w := b.stagedCrc false * 2 + b2n b.stagedAny
  let due : Bool := match b.xl.twinLast with
    | some (v, x) => v != w || decide (x + 64 ≤ b.xc)
    | none => true
  if due then { b with xl := { b.xl with twin := b.xl.twin ++ [3 * 2 ^ 180 + w * 2 ^ 147], twinLast := some (w, b.xc) } } else b

/-- TWIN (R448). -/
def execTwin (u : BnId) (s : State) : Host.Outcome State Fault Refusal := .next (s.pairAct u Bn.twinMsg)

/-- Whether a unit is idle for an entry (R416): READY or DOZE with PHASE IDLE. -/
def Bn.entryIdle (b : Bn) : Bool := (b.power.dev == .ready || b.power.dev == .doze) && b.acq.phase == .idle

/-- Whether this is the preferred unit with REVERT_EN = 1 (R415). -/
def Bn.preferred (b : Bn) : Bool := wbit (b.rd 0x2001) 18 && (wbit (b.rd 0x2001) 19 == (b.unit == .b))

/-- A COLD unit asks for entry (R415, R416), at most every 1 024 crossings. -/
def Bn.entryAsk (b : Bn) : Bn :=
  let j := b.lease.join
  let wants : Bool := j.wanted || (b.preferred && !b.lease.gaveUp)
  let due : Bool := match j.askAt with
    | some x => decide (x + 1024 ≤ b.xc)
    | none => true
  if b.lease.role = .cold ∧ j.code ≠ 2 ∧ wants = true ∧ due = true ∧ b.entryIdle = true ∧ b.stage.st ≠ .armed ∧ b.xl.down = false then
    (b.mapLease (fun l => { l with join := { l.join with askAt := some b.xc, code := 1 } })).sendCtl 1 b.now
      (b.liveHdrCrc * 2 ^ 96 + b.liveCrc false * 2 ^ 64)
  else b

/-- ENTRY_ASK (R416). -/
def execEntryAsk (u : BnId) (s : State) : Host.Outcome State Fault Refusal := .next (s.pairAct u Bn.entryAsk)

/-- The ENTRY_ASK in force at this boundary, to the ACTIVE unit: its argument (R416, R421). -/
def Bn.asked (b : Bn) : Option Nat :=
  match b.ctlNow with
  | some (1, _, arg) => if b.holds = true ∧ b.xl.down = false then some arg else none
  | _ => none

/-- The reason to defer an entry, 0 for none (R416, R421). -/
def Bn.deferReason (b : Bn) (arg : Nat) : Nat :=
  if bitsOf arg 127 96 ≠ b.liveHdrCrc then 1
  else if bitsOf arg 95 64 ≠ b.liveCrc false then 2
  else if b.entryIdle = false then 3
  else if b.stage.st = .armed then 4
  else 0

/-- ENTRY: the ACTIVE unit agrees, and names Y and the count (R416). -/
def Bn.entryYes (b : Bn) : Bn :=
  match b.asked with
  | some arg =>
    if b.deferReason arg = 0 then
      (b.mapLease (fun l => { l with join := { l.join with y := some (b.now + 16), outIdx := 0, count := b.setSize, l := none } })).sendCtl 2
        (b.now + 16) (b.setSize * 2 ^ 108)
    else b
  | none => b

/-- ENTRY (R416). -/
def execEntry (u : BnId) (s : State) : Host.Outcome State Fault Refusal := .next (s.pairAct u Bn.entryYes)

/-- ENTRY_DEFER: the answer to an ask, or the end of an entry that the ACTIVE unit can no longer go on with (R416, R418). -/
def Bn.entryNo (b : Bn) : Bn :=
  match b.asked with
  | some arg => if b.deferReason arg = 0 then b else b.sendCtl 3 b.now (b.deferReason arg * 2 ^ 124)
  | none =>
    if b.lease.join.y.isSome = true ∧ b.entryIdle = false then b.endEntry 3
    else if b.lease.join.y.isSome = true ∧ b.stage.st = .armed then b.endEntry 4
    else b

/-- ENTRY_DEFER (R421). -/
def execEntryDefer (u : BnId) (s : State) : Host.Outcome State Fault Refusal := .next (s.pairAct u Bn.entryNo)

/-- STATE: from its frame of Y on, the ACTIVE unit sends four doubles of the transfer set in each crossing (R417). -/
def Bn.stateSend (b : Bn) : Bn :=
  let j := b.lease.join
  match j.y with
  | some y =>
    if b.holds = true ∧ b.xl.down = false ∧ y ≤ b.now ∧ j.outIdx < j.count ∧ b.xl.st = [] then
      { b.mapLease (fun l => { l with join := { j with outIdx := j.outIdx + 4 } }) with
        xl := { b.xl with st := [stateMsg j.outIdx ((b.transferSet.drop j.outIdx).take 4)] } }
    else b
  | none => b

/-- STATE (R417). -/
def execState (u : BnId) (s : State) : Host.Outcome State Fault Refusal := .next (s.pairAct u Bn.stateSend)

/-- LOCK: in the crossing after its last STATE frame the ACTIVE unit names L (R418). -/
def Bn.lockSend (b : Bn) : Bn :=
  let j := b.lease.join
  if b.holds = true ∧ b.xl.down = false ∧ j.y.isSome = true ∧ j.l = none ∧ j.count ≤ j.outIdx ∧ b.xl.st = [] then
    (b.mapLease (fun l => { l with join := { j with l := some (b.now + 8) } })).sendCtl 4 (b.now + 8) 0
  else b

/-- LOCK (R418). -/
def execLock (u : BnId) (s : State) : Host.Outcome State Fault Refusal := .next (s.pairAct u Bn.lockSend)

/-- The last crossing in which LOCK may come into force (R418): 16 after that in which the last STATE frame was due in force. -/
def Joining.lockBy (j : Joining) : Nat := j.y.getD 0 + (j.count + 3) / 4 - 1 + 2 + 16

/-- ENTRY_ABORT: the joining unit gives up an entry for which no LOCK came, or that its own state rules out (R418). -/
def Bn.entryLate (b : Bn) : Bn :=
  let j := b.lease.join
  if b.lease.role = .cold ∧ j.code = 2 ∧ (b.entryIdle = false ∨ b.xl.down = true ∨ (j.l = none ∧ j.lockBy < b.now)) then b.abortJoin
  else b

/-- ENTRY_ABORT (R418). -/
def execEntryAbort (u : BnId) (s : State) : Host.Outcome State Fault Refusal := .next (s.pairAct u Bn.entryLate)

/-- The joining unit with the received set in its own state (R417); a double that did not arrive leaves its own. The compression
history of the standard formes comes with it (R360). -/
def Bn.joined (b : Bn) (partner : Bn) : Bn :=
  let own := b.transferSet
  let d (i : Nat) : Dbl := mget b.lease.join.got i (own.getD i 0)
  let b1 := ((b.writeSet d).wr 0x2008 (dlo (d 0))).wr 0x2009 (dhi (d 1))
  let f := partner.fst
  { b1 with
    fst := { b1.fst with med := f.med, mean := f.mean, tabs := f.tabs, counts := f.counts }
    lease := { b1.lease with role := .shadow, shadowSince := b.xc, next := none, join := .none }
    stage := { b1.stage with restoreArmed := true } }

/-- SHADOW_ENTRY_END: crossing L (R418). -/
def Bn.entryEnd (b : Bn) (partner : Bn) : Bn :=
  let j := b.lease.join
  if j.l ≠ some b.now ∨ b.xl.down = true then b
  else if b.lease.role = .cold ∧ j.code = 2 then b.joined partner
  else if b.holds then { b.mapLease (fun l => { l with join := .none }) with stage := { b.stage with restoreArmed := true } }
  else b

/-- SHADOW_ENTRY_END (R418). -/
def execShadowEntryEnd (u : BnId) (s : State) : Host.Outcome State Fault Refusal :=
  .next (s.pairAct u (fun b => b.entryEnd (s.bn u.other)))

/-- A handover that does not come about (R414). -/
def Bn.hoFail (b : Bn) : Bn := (b.mapLease (fun l => { l with ho := none })).bump 0x2017

/-- HANDOVER: crossing K + 1 of the holder (R414). -/
def Bn.hoAsk (b : Bn) : Bn :=
  match b.lease.ho with
  | some h =>
    if b.holds = false ∨ h.k + 1 ≠ b.xc ∨ h.asked = true then b
    else if b.partnerRole = some 1 then
      (b.mapLease (fun l => { l with ho := some { h with asked := true } })).sendCtl 5 h.h ((b.rd 0x2009).toNat * 2 ^ 108)
    else b.hoFail
  | none => b

/-- HANDOVER (R414). -/
def execHandover (u : BnId) (s : State) : Host.Outcome State Fault Refusal := .next (s.pairAct u Bn.hoAsk)

/-- ACCEPT: crossing K + 3 of the claimant (R414). -/
def Bn.hoAccept (b : Bn) : Bn :=
  match b.lease.ho with
  | some h =>
    let stored : Bool := match b.sheets.firstSeq with
      | some f => !older h.tx f
      | none => true
    if b.lease.role = .shadow ∧ h.k = b.xc ∧ h.accepted = false ∧ b.lease.gaveUp = false ∧ b.rd 0x2010 = 0 ∧ stored = true then
      (b.mapLease (fun l => { l with ho := some { h with accepted := true } })).sendCtl 6 h.h 0
    else b
  | none => b

/-- ACCEPT (R414). -/
def execAccept (u : BnId) (s : State) : Host.Outcome State Fault Refusal := .next (s.pairAct u Bn.hoAccept)

/-- COMMIT: crossing K + 5 of the holder, after its data sheet (R414). -/
def Bn.hoCommit (b : Bn) : Bn :=
  match b.lease.ho with
  | some h =>
    if b.holds = false ∨ h.k + 5 ≠ b.xc ∨ h.committed.isSome = true then b
    else if h.accepted then
      (b.mapLease (fun l => { l with ho := some { h with committed := some (b.lease.exp, b.rd 0x2009, b.rd 0x2008) } })).sendCtl 7 h.h
        (b.lease.exp % 2 ^ 48 * 2 ^ 80 + (b.rd 0x2009).toNat * 2 ^ 60 + (b.rd 0x2008).toNat * 2 ^ 40)
    else b.hoFail
  | none => b

/-- COMMIT (R414). -/
def execCommit (u : BnId) (s : State) : Host.Outcome State Fault Refusal := .next (s.pairAct u Bn.hoCommit)

/-- Whether the holder pauses its data sheets: crossings K + 6 and K + 7 of a committed handover (R414). -/
def Bn.hoPause (b : Bn) : Bool :=
  match b.lease.ho with
  | some h => b.holds && h.committed.isSome && decide (h.k + 6 ≤ b.xc)
  | none => false

/-- The claimant at H (R412, R414): ACTIVE with what COMMIT gave; the pointers go on where the holder's stood. -/
def Bn.hoTake (b : Bn) (h : Handover) (exp : Nat) (tx ack : Word) (dies : List Die) : Bn :=
  let x := (h.h + 2 ^ 48 - 2) % 2 ^ 48
  let dueOld := b.due x
  let b1 := { b with
    lease := { b.lease with
      role := .active, exp := exp, released := false, next := none, claim := false, ho := none, xOld := some x }
    sheets := { b.sheets with tkR := true, hold := true }
    anchors := { b.anchors with roleEvent := some b.now } }
  ((((((b1.wr 0x2008 ack).wr 0x200D tx).wr 0x2009 tx).wr 0x200E (if older tx dueOld then dueOld else tx)).wr 0x200F 0).wrN 0x200C
    (3 * 2 ^ 18 + 2 ^ 16 + b.now % 2 ^ 16)).bump 0x2016 |>.clearSafe dies

/-- HANDOVER_END: crossing H (R414). The holder gives the lease up whether or not the claimant took it. -/
def Bn.hoEnd (b : Bn) (dies : List Die) : Bn :=
  match b.lease.ho with
  | some h =>
    if h.h ≠ b.now then b
    else if b.lease.role = .active then
      if h.committed.isSome then
        ({ b with lease := { b.lease with
          role := .shadow, shadowSince := b.xc, next := none, released := false, claim := false, ho := none } }.dropEntry).bump 0x2016
      else b.mapLease (fun l => { l with ho := none })
    else
      match h.committed with
      | some (exp, tx, ack) => if b.lease.role = .shadow then b.hoTake h exp tx ack dies else b
      | none => b.mapLease (fun l => { l with ho := none })
  | none => b

/-- HANDOVER_END (R414). -/
def execHandoverEnd (u : BnId) (s : State) : Host.Outcome State Fault Refusal :=
  .next (s.pairAct u (fun b => b.hoEnd s.dies))

/-- LEASE_EXPIRY: the lease has expired; the unit is QUIET from this boundary (R395, R48). It may come during a clock wait (R467). -/
def Bn.expire (b : Bn) : Bn :=
  if b.lease.role = .active ∧ b.lease.exp < b.now then
    ({ b with lease := { b.lease with role := .quiet, next := none, released := false, claim := false, ho := none } }.dropEntry).bump 0x2015
  else b

/-- LEASE_EXPIRY (R395). -/
def execLeaseExpiry (u : BnId) (s : State) : Host.Outcome State Fault Refusal :=
  .next (if s.variant ≠ .sln2 ∧ (s.bn u).power.dev.crosses = true then s.mapBn u Bn.expire else s)

/-- CLAIM (R415). -/
def Bn.raiseClaim (b : Bn) : Bn :=
  let k := (b.rd 0x2004).toNat
  if b.lease.role = .shadow ∧ b.preferred = true ∧ b.lease.shadowSince + k ≤ b.xc ∧ k ≤ (b.rd 0x3C03).toNat then
    b.mapLease (fun l => { l with claim := true })
  else b

/-- CLAIM (R415). -/
def execClaim (u : BnId) (s : State) : Host.Outcome State Fault Refusal := .next (s.pairAct u Bn.raiseClaim)

end Sys2Proof.Machine
end

