-- ==== Sys2Proof/Machine/Coding.lean ====
section
/-! DEFINITION. The coding of the standard formes: records, marks and items as bits (R349-R361), the tables (R358), the history
(R357, R359). -/

namespace Sys2Proof.Machine

/-- The index of ESC in a table (R358). -/
def escSym : Nat := 19

/-- The code lengths of the static tables, symbols 0-18 and ESC (R358). -/
def staticTab : Nat → List Nat
  | 0 => [2, 3, 3, 3, 4, 4, 4, 4, 5, 5, 5, 7, 7, 8, 8, 0, 0, 0, 0, 7]
  | 1 => [5, 5, 4, 4, 3, 3, 3, 3, 4, 4, 4, 5, 5, 5, 0, 0, 0, 0, 0, 5]
  | _ => [2, 2, 2, 4, 4, 5, 5, 5, 6, 0, 0, 0, 0, 0, 0, 0, 0, 0, 0, 6]

/-- How many symbols of a table have a length. -/
def lenCount (tab : List Nat) (l : Nat) : Nat := (tab.filter (fun x => x == l)).length

/-- The first code of a length (R358): next(1) = 0, next(L) = 2·(next(L-1) + count(L-1)). -/
def firstCode (tab : List Nat) : Nat → Nat
  | 0 => 0
  | 1 => 0
  | l + 2 => 2 * (firstCode tab (l + 1) + lenCount tab (l + 1))

/-- The canonical code of a symbol; empty for a symbol without a code (R358). -/
def symCode (tab : List Nat) (sym : Nat) : List Bool :=
  let l := tab.getD sym 0
  bitsMsb (firstCode tab l + lenCount (tab.take sym) l) l

/-- Whether a table is valid (R358): 20 lengths of at most 15, ESC has one, the lengths fit a code. -/
def tabOk (tab : List Nat) : Bool :=
  tab.length == 20 && tab.all (fun l => decide (l ≤ 15)) && tab.getD escSym 0 != 0 &&
    decide ((tab.filter (fun l => l != 0)).foldl (fun a l => a + 2 ^ (15 - l)) 0 ≤ 2 ^ 15)

/-- The table that a forme builds from counts (R359): what it is within R358 is open; the same counts give the same table. -/
def builtTab (field : Nat) (counts : List Nat) : List Nat :=
  let t := (List.range 20).map (fun s => Config.tableLength field counts s)
  if tabOk t then t else staticTab field

/-- The table of a field in force. -/
def FormeSt.tab (f : FormeSt) (field : Nat) : List Nat := mget f.tabs field (staticTab field)

/-- The bucket of a value (R356). -/
def bucketOf (z : Nat) : Nat := if z = 0 then 0 else z.log2 + 1

/-- A residual as a value (R355). -/
def zigzag (r : Int) : Nat := if 0 ≤ r then (2 * r).toNat else (-2 * r - 1).toNat

/-- A value of a field as bits under a table (R356): a bucket without a code goes through ESC. -/
def codeField (tab : List Nat) (z : Nat) : List Bool :=
  let k := bucketOf z
  let extra := bitsMsb z (k - 1)
  if k < escSym ∧ tab.getD k 0 ≠ 0 then symCode tab k ++ extra else symCode tab escSym ++ bitsMsb k 5 ++ extra

/-- One bucket is counted for its field (R359). -/
def FormeSt.count (f : FormeSt) (field z : Nat) : FormeSt :=
  let c := mget f.counts field (List.replicate 20 0)
  { f with counts := mput f.counts field (c.set (bucketOf z) (c.getD (bucketOf z) 0 + 1)) [] }

/-- A hit record already coded in the part: die, pad, TOA, code (R355). -/
structure Coded where
  die : Nat
  x : Nat
  y : Nat
  toa : Int
  code : Nat
deriving DecidableEq, Repr

/-- The part under way (R354): the package channel of the last hit record, the records coded, newest first. -/
structure PartCode where
  prev : Int
  coded : List Coded
deriving DecidableEq, Repr

/-- A part that begins. -/
def PartCode.start : PartCode := ⟨-1, []⟩

/-- The column of a die channel (R13). -/
def padX (ch : Nat) : Nat := bitsOf ch 8 8 * 16 + bitsOf ch 5 4 * 4 + bitsOf ch 1 0

/-- The row of a die channel (R13). -/
def padY (ch : Nat) : Nat := bitsOf ch 9 9 * 16 + bitsOf ch 7 6 * 4 + bitsOf ch 3 2

/-- The distance of two coordinates. -/
def gap (a b : Nat) : Nat := a - b + (b - a)

/-- The thresholds of the TOT log code (R270). -/
def totThresholds : List Nat := [4278, 4467, 4665, 4871, 5087, 5312, 5548, 5793, 6050, 6317, 6597, 6889, 7194, 7513, 7845]

/-- The TOT log code (R270). -/
def totCode (tot : Nat) : Nat :=
  if tot = 0 then 0
  else if 0x1FFF ≤ tot then 127
  else if tot < 64 then 1
  else
    let b := tot.log2
    1 + 16 * (b - 6) + (totThresholds.filter (fun t => decide (t ≤ tot * 2 ^ (12 - b)))).length

/-- The two words of a hit record (R349). -/
def FHit.words (h : FHit) : List Word :=
  [wof (h.die * 2 ^ 17 + h.ch * 2 ^ 7 + totCode h.tot),
    wof (b2n h.sat * 2 ^ 19 + b2n h.neigh * 2 ^ 18 + b2n h.cal * 2 ^ 17 + ofInt h.toa 17)]

/-- The neighbour of a record (R355): within 1 in x and y, nearest, at equal distance the one coded last. -/
def PartCode.neighbour (p : PartCode) (die x y : Nat) : Option Coded :=
  (p.coded.filter (fun c => c.die == die && decide (gap c.x x ≤ 1) && decide (gap c.y y ≤ 1))).foldl (fun best c =>
    match best with
    | none => some c
    | some b => if gap c.x x + gap c.y y < gap b.x x + gap b.y y then some c else best) none

/-- A hit record coded (R353, R355-R357): its bits, the history and the part after it. -/
def FormeSt.codeHit (f : FormeSt) (p : PartCode) (h : FHit) : List Bool × FormeSt × PartCode :=
  let chan : Int := ((1024 * h.die + h.ch : Nat) : Int)
  let x := padX h.ch
  let y := padY h.ch
  let code := totCode h.tot
  let nb := p.neighbour h.die x y
  let mean := mget f.mean h.die 0
  let predT : Int := match nb with
    | some c => c.toa
    | none => mget f.med h.die 0
  let predC : Int := match nb with
    | some c => (c.code : Int)
    | none => (mean + 8).fdiv 16
  let zc := zigzag (chan - p.prev - 1)
  let zt := zigzag (h.toa - predT)
  let zo := zigzag ((code : Int) - predC)
  let flags := if h.sat || h.neigh || h.cal then [true, h.sat, h.neigh, h.cal] else [false]
  let bits := false :: (codeField (f.tab 0) zc ++ codeField (f.tab 1) zt ++ codeField (f.tab 2) zo ++ flags)
  let f1 := ((f.count 0 zc).count 1 zt).count 2 zo
  (bits, { f1 with mean := mput f1.mean h.die (mean + (16 * (code : Int) - mean).fdiv 16) 0 },
    ⟨chan, ⟨h.die, x, y, h.toa, code⟩ :: p.coded⟩)

/-- The end of a part that began at an XC item (R357): per die the lower median of the TOAs. -/
def FormeSt.endPart (f : FormeSt) (p : PartCode) : FormeSt :=
  (List.range 6).foldl (fun f d =>
    let ts := (p.coded.filter (fun c => c.die == d)).foldl (fun l c => insertBy (fun a b => decide (a < b)) c.toa l) ([] : List Int)
    if ts = [] then f else { f with med := mins d (ts.getD ((ts.length - 1) / 2) 0) (mdel f.med d) }) f

/-- A KEY item sets the history back (R359). -/
def FormeSt.keyReset (f : FormeSt) : FormeSt := { f with med := [], mean := [], tabs := [], counts := [] }

/-- The bits of a KEY item (R353): seven. -/
def keyBits (cause : Nat) : List Bool := [true, true, true, true, false] ++ bitsMsb cause 2

/-- A mark as an item (R353, R361). -/
def markBits (compressed : Bool) (ws : List Word) : List Bool :=
  if compressed then [true, true, true, false] ++ wordBits ws else wordBits ws

/-- The XC opening of a group as an item (R352, R353). -/
def xcBits (compressed late : Bool) (c : Nat) : List Bool :=
  if compressed then [true, false, late] ++ bitsMsb c 16 else wordBits (markWords 0 0 (wof (b2n late * 2 ^ 19 + c % 2 ^ 16)) [])

/-- A cluster record as an item (R350, R353). -/
def clusterBits (compressed : Bool) (r : Word × Word) : List Bool :=
  if compressed then [true, true, false] ++ wordBits [r.1, r.2] else wordBits [r.1, r.2]

/-- The type of a mark (R351). -/
def markType (ws : List Word) : Nat := fld (ws.headD 0) 16 12

/-- The words of a TABLE mark (R352). -/
def tableMark (field : Nat) (tab : List Nat) : List Word :=
  let five (i : Nat) : Nat := (List.range 5).foldl (fun a k => a * 16 + tab.getD (5 * i + k) 0) 0
  markWords 8 (field * 2 ^ 6) (wof (five 0)) [wof (five 1), wof (five 2), wof (five 3)]

/-- A TABLE mark installs its table (R358): the lengths of symbols 0-18, then ESC. -/
def FormeSt.install (f : FormeSt) (ws : List Word) : FormeSt :=
  let field := fld (ws.headD 0) 7 6
  let tab := (ws.drop 1).flatMap (fun w => (List.range 5).map (fun k => fld w (19 - 4 * k) (16 - 4 * k)))
  if tabOk tab then { f with tabs := mput f.tabs field tab (staticTab field) } else f

end Sys2Proof.Machine
end

