-- ==== Sys2Proof/Machine/Forme.lean ====
section
/-! DEFINITION. What the standard formes do in a crossing (R263-R275, R102-R107, R125, R139, R142, R144, R312, R314-R329, R422, R482,
R535, R536, R582): they read the frames presented, form primitives, records and marks, and write them to their queues. A forme that
R263 does not list is its instructions alone (Machine/CompIsa.lean). -/

namespace Sys2Proof.Machine

/-- The kinds of standard formes (R263). -/
inductive Std where
  | hit
  | cluster
  | stats
  | diag
deriving DecidableEq, Repr

/-- The standard forme that a FORME_ID names (R263). -/
def stdOf (id : Nat) : Option Std :=
  if id = 0x2 ∨ id = 0x4 ∨ id = 0x8 then some .hit
  else if id = 0x18 then some .cluster
  else if id = 0x102 ∨ id = 0x104 ∨ id = 0x108 then some .stats
  else if id = 0x202 ∨ id = 0x204 ∨ id = 0x208 then some .diag
  else none

/-- The standard forme that is live. -/
def Bn.std (b : Bn) : Option Std := if b.loader.live then stdOf (b.rd 0x4051).toNat else none

/-- Whether a forme applies the rate control, the dense windows and the thermal pattern (chapter 10; R535). -/
def Std.full (k : Std) : Bool := k == .hit || k == .cluster

/-- CUT of the live forme (R250). -/
def Bn.cut (b : Bn) : Nat := fld (b.rd 0x404A) 13 10

/-- HIT_LAT of the live forme (R250). -/
def Bn.hitLat (b : Bn) : Nat := fld (b.rd 0x404A) 9 2

/-- Change the working state of the forme. -/
def Bn.mapFst (b : Bn) (f : FormeSt → FormeSt) : Bn := { b with fst := f b.fst }

/-- A mark waits for queue 7. -/
def Bn.putMark (b : Bn) (ws : List Word) : Bn := b.mapFst (fun f => { f with marks := f.marks ++ [(ws, false)] })

/-- The die mask of every FV die present. -/
def State.dieMask (s : State) : Nat := s.dies.foldl (fun a d => a + 2 ^ d.val) 0

/-- A forme writes an item; it keeps within the quota (R289), so that a write that the quota rules out is not made. -/
def Bn.formePut (b : Bn) (q : Nat) (ds : List Dbl) : Bn × Bool :=
  if b.quota q < (b.queue q).cells.length + 9 then (b, false)
  else
    ds.zipIdx.foldl (fun (x : Bn × Bool) p =>
      let r := x.1.qWrite q p.1 (p.2 + 1 == ds.length) false 0
      (r.1, x.2 && r.2)) (b, true)

/-- A forme reads one double: whether it came (R290). -/
def Bn.formeGet (b : Bn) (q : Nat) : Bn × Bool :=
  match b.qRead q b.cycle with
  | (b1, .data _ _) => (b1, true)
  | (b1, _) => (b1, false)

/-- A forme reads a number of doubles: whether all came. -/
def Bn.formeGets (b : Bn) (q : Nat) : Nat → Bn × Bool
  | 0 => (b, true)
  | k + 1 =>
    let r := b.formeGet q
    let t := r.1.formeGets q k
    (t.1, r.2 && t.2)

/-- A forme takes note of a flush (R290, R293): the read that finds FLUSHED. -/
def Bn.formeFlushed (b : Bn) (q : Nat) : Bn := if (b.queue q).flushed then (b.formeGet q).1 else b

/-- Items of at most 16 doubles. -/
def chunks16 (l : List α) : Nat → List (List α)
  | 0 => []
  | k + 1 => if l.isEmpty then [] else l.take 16 :: chunks16 (l.drop 16) k

/-! Coverage. -/

/-- The die mask under SKIP at a crossing (R39). -/
def FormeSt.skipAt (f : FormeSt) (c : Int) : Nat :=
  f.skips.foldl (fun a p => if (p.2 : Int) = c then a ||| p.1 else a) 0

/-- A die mask without the dies of another. -/
def maskOff (m k : Nat) : Nat := m - (m &&& k)

/-- A LOSS mark (R352). -/
def lossMark (mask trays : Nat) (first last : Int) (cause : Nat) : List Word :=
  markWords 5 (mask * 4) (wof (trays * 2 ^ 16 + ofInt first 16)) [wof (cause * 2 ^ 16 + ofInt last 16)]

/-- Runs of equal die masks over the crossings from `c` on (R39). -/
def lossRuns (mask : Nat → Nat) : Nat → List (Nat × Nat × Nat) → Nat → List (Nat × Nat × Nat)
  | _, acc, 0 => acc
  | i, acc, k + 1 =>
    let m := mask i
    match acc.getLast? with
    | some (m0, a, z) =>
      if m0 = m ∧ z + 1 = i then lossRuns mask (i + 1) (acc.dropLast ++ [(m, a, i)]) k
      else lossRuns mask (i + 1) (acc ++ [(m, i, i)]) k
    | none => lossRuns mask (i + 1) [(m, i, i)] k

/-- LOSS marks for a range of crossings (R352, R39): one, or split where the dies under SKIP change. -/
def Bn.loss (b : Bn) (mask trays : Nat) (first last : Int) (cause : Nat) : Bn :=
  if last < first then b
  else if b.fst.skips.any (fun p => decide (first ≤ p.2) && decide ((p.2 : Int) ≤ last) && (p.1 &&& mask != 0)) then
    (lossRuns (fun i => maskOff mask (b.fst.skipAt (first + i))) 0 [] ((last - first).toNat + 1)).foldl (fun b r =>
      if r.1 = 0 then b else b.putMark (lossMark r.1 trays (first + r.2.1) (first + r.2.2) cause)) b
  else b.putMark (lossMark mask trays first last cause)

/-- The mark of a cover run. -/
def Cover.mark (c : Cover) : List Word := lossMark c.mask 15 c.first c.last c.cause

/-- A crossing joins the run of its cause and die mask, or opens one; a run of 64 crossings closes (R582). -/
def Bn.cover (b : Bn) (cause mask c : Nat) : Bn :=
  let same (r : Cover) : Bool := r.cause == cause && r.mask == mask && r.last + 1 == c
  match b.fst.covers.find? same with
  | some r =>
    let r1 := { r with last := c }
    if c + 1 - r.first = 64 then
      (b.mapFst (fun f => { f with covers := f.covers.filter (fun x => !same x) })).putMark r1.mark
    else b.mapFst (fun f => { f with covers := replaceFirst same (fun _ => r1) f.covers })
  | none => b.mapFst (fun f => { f with covers := f.covers ++ [⟨cause, mask, c, c⟩] })

/-- The runs of a cause that crossing c did not join close (R582). -/
def Bn.closeCovers (b : Bn) (cause c : Nat) : Bn :=
  let gone (r : Cover) : Bool := r.cause == cause && decide (r.last < c)
  let b1 := (b.fst.covers.filter gone).foldl (fun b r => b.putMark r.mark) b
  b1.mapFst (fun f => { f with covers := f.covers.filter (fun r => !gone r) })

/-! Correction (R265-R272). -/

/-- The home compositor of a tray (R265). -/
def homeOf (v : Variant) (d t : Nat) : Nat :=
  match v with
  | .sln8 => 16 * ((4 * d + t) % 8) + 2 + (4 * d + t) / 8
  | _ => 16 * d + 2 + t

/-- Table words of a compositor. -/
def Bn.treads (b : Bn) (n base : Nat) : Nat → Bn × List Word
  | 0 => (b, [])
  | k + 1 =>
    let r := b.tread n base
    let t := r.1.treads n (base + 1) k
    (t.1, r.2 :: t.2)

/-- PHI (R268). -/
def phiOf (ref src : Bool) (fwdA fwdB phase : Int) : Int :=
  if ref = src then (if ref then fwdB else fwdA) else if ref then fwdA + phase else fwdB - phase

/-- The corrected TOA from the five coefficient words (R266, R269). -/
def correctToa (k : List Word) (toa tot : Nat) (phi : Int) : Int × Bool :=
  let valid := wbit (k.getD 4 0) 19
  let c (i : Nat) : Int := if valid then (k.getD i 0).toInt else 0
  let tref := if valid then fld (k.getD 3 0) 12 0 else 0
  let u : Nat := if tref = 0 then 0 else if tot ≤ tref then 2 ^ 18 else 2 ^ 18 * tref / tot
  let u2 : Nat := (u * u + 2 ^ 17) / 2 ^ 18
  let walk := (c 1 * u + c 2 * u2 + 2 ^ 21).fdiv (2 ^ 22)
  (max (-65536) (min 65535 ((toa : Int) + phi - c 0 - walk)), !valid)

/-- A hit corrected (R268, R269). -/
def Bn.correct (b : Bn) (v : Variant) (h : FHit) : Bn × FHit :=
  let t := h.ch / 256
  let n := homeOf v h.die t
  let (b1, k) := b.treads n (5 * (h.ch % 256)) 5
  let (b2, w) := b1.treads n 1280 2
  let phase : Int := match (b.lig.toList[h.die]?) with
    | some g => sx (mget g.phase t 0).toNat 16
    | none => 0
  let phi := phiOf h.ref (b.fst.lastAnc.getD false) (w.getD 0 0).toInt (w.getD 1 0).toInt phase
  let r := correctToa k h.toa.toNat h.tot phi
  (b2, { h with toa := r.1, cal := r.2 })

/-- Whether a hit lies in a window of a saturation of its bonbon (R76). -/
def FormeSt.isNeigh (f : FormeSt) (d ch c t : Nat) : Bool :=
  f.notices.any (fun n => n.1 == d && n.2.1 == ch / 16 &&
    (decide (n.2.2.1 < c) || (n.2.2.1 == c && decide (n.2.2.2 < t))) &&
    (decide (c < n.2.2.1 + 2) || (c == n.2.2.1 + 2 && decide (t ≤ n.2.2.2))))

/-- The bin of a time (R272). -/
def binOf (t : Int) : Nat := min 15 (max 0 (t.fdiv 1600)).toNat

/-- Bins with one count more, saturating (R272). -/
def addBin (bins : List Nat) (i : Nat) : List Nat := bins.set i (min 31 (bins.getD i 0 + 1))

/-- The primitive words of a crossing (R272). -/
def primWords (bins : List Nat) : List Word :=
  (List.range 4).map (fun w => wof ((List.range 4).foldl (fun a k => a * 32 + bins.getD (4 * w + k) 0) 0))

/-! Clusters (R273). -/

/-- Whether two hits of one die are linked. -/
def linked (win : Nat) (g h : FHit) : Bool :=
  g.die == h.die && decide (gap (padX g.ch) (padX h.ch) ≤ 1) && decide (gap (padY g.ch) (padY h.ch) ≤ 1) &&
    decide (g.toa - h.toa ≤ win) && decide (h.toa - g.toa ≤ win)

/-- The sets of hits connected by links. -/
def clustersOf (win : Nat) (hs : List FHit) : List (List FHit) :=
  hs.foldl (fun cs h =>
    let hit (c : List FHit) : Bool := c.any (fun g => linked win g h)
    (cs.filter (fun c => !hit c)) ++ [(cs.filter hit).flatten ++ [h]]) []

/-- The weight of a hit. -/
def FHit.weight (h : FHit) : Nat := max h.tot 1

/-- The time of a cluster. -/
def clusterTime (c : List FHit) : Int :=
  let w := c.foldl (fun a h => a + h.weight) 0
  let s := c.foldl (fun a h => a + (h.weight : Int) * h.toa) (0 : Int)
  (s + ((w / 2 : Nat) : Int)).fdiv w

/-- The seed of a cluster: largest weight, then lowest channel. -/
def clusterSeed (c : List FHit) : Option FHit :=
  c.foldl (fun best h =>
    match best with
    | none => some h
    | some g => if g.weight < h.weight ∨ (g.weight = h.weight ∧ h.ch < g.ch) then some h else best) none

/-- A cluster record (R350), for two hits or more. -/
def clusterWords (c : List FHit) : Option (Nat × Word × Word) :=
  match clusterSeed c with
  | some s =>
    if c.length < 2 then none
    else
      let fl := b2n (c.any (·.sat)) * 4 + b2n (c.any (·.neigh)) * 2 + b2n (c.any (·.cal))
      some (s.die, wof (6 * 2 ^ 17 + s.die * 2 ^ 14 + s.ch * 2 ^ 4 + min c.length 15), wof (fl * 2 ^ 17 + ofInt (clusterTime c) 17))
  | none => none

/-- The order of records in a part (R354). -/
def hitBefore (a b : FHit) : Bool :=
  decide (1024 * a.die + a.ch < 1024 * b.die + b.ch) || (a.die == b.die && a.ch == b.ch && decide (a.toa < b.toa))

/-- Hits in the order of a part. -/
def sortHits (hs : List FHit) : List FHit := hs.foldl (fun l h => insertBy hitBefore h l) []

/-! Groups into queues (R274, R289, R294). -/

/-- The records of one die written to its queue, item by item; a refused item is covered by a LOSS of cause STORE (R289). -/
def Bn.putRecords (b : Bn) (q d c : Nat) (items : List (List FHit)) : Bn × List FHit :=
  items.foldl (fun (x : Bn × List FHit) it =>
    let r := x.1.formePut q (it.map (fun h => dbl (h.words.getD 0 0) (h.words.getD 1 0)))
    if r.2 then
      let w := r.1.fst.writes
      (r.1.mapFst (fun f => { f with writes := f.writes + it.length }), x.2 ++ it.zipIdx.map (fun p => { p.1 with seq := w + p.2 }))
    else (r.1.loss (2 ^ d) 15 c c 5, x.2)) (b, [])

/-- The cluster records of a group written to queue 6. -/
def Bn.putClusters (b : Bn) (c : Nat) (cs : List (Nat × Word × Word)) : Bn × List (Nat × Word × Word) :=
  cs.foldl (fun (x : Bn × List (Nat × Word × Word)) r =>
    let y := x.1.formePut 6 [dbl r.2.1 r.2.2]
    if y.2 then (y.1, x.2 ++ [r]) else (y.1.loss (2 ^ r.1) 15 c c 5, x.2)) (b, [])

/-- A crossing group, or a late group, is complete (R271-R274): its primitives, its records and clusters. -/
def Bn.closeGroup (b : Bn) (k : Std) (c : Nat) (hs : List FHit) (late : Bool) : Bn :=
  let win := (b.tableWord (homeOf .sln8 0 0) 1282).toNat % 65536
  let prims : List Nat :=
    match k with
    | .hit => hs.foldl (fun p h => addBin p (binOf h.toa)) (List.replicate 16 0)
    | .cluster => (clustersOf win hs).foldl (fun p g => addBin p (binOf (clusterTime g))) (List.replicate 16 0)
    | _ => List.replicate 16 0
  let b1 := if late then b else b.mapFst (fun f => { f with prims := mput f.prims c prims (List.replicate 16 0) })
  let kept := sortHits (hs.filter (·.kept))
  let (b2, recs) := (List.range 6).foldl (fun (x : Bn × List FHit) d =>
    let mine := kept.filter (fun h => h.die == d)
    let r := x.1.putRecords d d c (chunks16 mine (mine.length + 1))
    (r.1, x.2 ++ r.2)) (b1, [])
  let cl := if k = .cluster then (clustersOf win kept).filterMap clusterWords else []
  let (b3, cls) := b2.putClusters c cl
  let byDie := (List.range 6).filterMap (fun d =>
    let mine := (cls.filter (fun r => r.1 == d)).map (·.2)
    if mine = [] then none else some (d, mine))
  if recs = [] ∧ byDie = [] then b3
  else
    let p : FPart := ⟨c, late, none, recs, byDie, c + b.hitLat - b.primLat, false⟩
    b3.mapFst (fun f => { f with parts := insertBy (fun a z => decide (a.xc < z.xc)) p f.parts })

/-! Frames (R125, R139, R142, R144, R193, R312). -/

/-- What was found in force for a crossing (R327). -/
def FormeSt.judge (f : FormeSt) (c : Nat) : Judge := mget f.judges c ⟨0, 0, 0⟩

/-- Whether a crossing is a thermal SKIP crossing (R535). -/
def Judge.skips (j : Judge) (c : Nat) : Bool :=
  fld j.therm 19 18 == 2 && c % 2 ^ fld j.therm 3 0 == 2 ^ fld j.therm 3 0 - 1

/-- A low-band hit enters the look-back ring, queue 32 (R318). -/
def Bn.ringPut (b : Bn) (h : FHit) : Bn :=
  let r := b.formePut 32 [dof (h.ch * 2 ^ 30 + h.toa.toNat * 2 ^ 15 + h.tot * 4 + 2)]
  if r.2 then r.1.mapFst (fun f => { f with ring := f.ring ++ [h] })
  else r.1.mapFst (fun f => { f with ringDrop := f.ringDrop ++ [h.xc] })

/-- A tap pair goes to the tap queues of the selectors that name its channel (R105, R107, R445): the six words of its mark. -/
def Bn.tapPut (b : Bn) (f : Fv) (d c : Nat) (s1 s2 : Dbl) : Bn :=
  let ch := bitsOf s1.toNat 39 30
  ((List.range 16).filter (fun k => wbit (f.rd (0x1C10 + k)) 19 && fld (f.rd (0x1C10 + k)) 9 0 == ch)).foldl (fun b k =>
    (b.formePut (48 + k) (toDoubles (markWords 0x0D (k * 16 + d) (dhi s1) [dlo s1, dhi s2, dlo s2, wof (c % 2 ^ 16)]))).1) b

/-- A stamp of the STATS forme (R102): the first hit of a channel with INJ_EN in a pulse crossing. -/
def Bn.stampHit (b : Bn) (f : Fv) (d ch c toa tot : Nat) : Bn :=
  let p := 1024 * d + ch
  let st := b.stats
  let have_ := mget st.stamps p []
  if st.collecting = true ∧ wbit (f.rd (0x1000 + 2 * ch)) 5 = true ∧ st.pulses.contains (d, c) = true ∧
      (st.seen.any (fun x => x.1 == p && x.2 == c)) = false ∧ have_.length < (b.rd 0x3800).toNat then
    { b with stats := { st with stamps := mput st.stamps p (have_ ++ [(toa, tot)]) [], seen := mins p c (mdel st.seen p) } }
  else b

/-- One slot of a presented frame (R271, R312, R318, R327): the die after it, and the late hits so far. -/
def Bn.slotIn (b : Bn) (k : Std) (v : Variant) (f : Fv) (d m : Nat) (beats : List Dbl) (ref : Bool) (late : List FHit) (i : Nat) :
    Bn × List FHit :=
  let w := (beats.getD (1 + i) 0).toNat
  let c := m - ageOf beats i
  let ch := bitsOf w 39 30
  let band := w % 4
  if band = 3 then
    if bitOf w 3 then (b, late) else (b.tapPut f d c (dof w) (beats.getD (2 + i) 0), late)
  else if band = 0 ∨ b.acq.inRun c = false ∨ (k.full && (b.fst.judge c).skips c) = true then (b, late)
  else
    let toa := bitsOf w 29 15
    let tot := bitsOf w 14 2
    let h : FHit := ⟨d, ch, toa, tot, tot == 0x1FFF, b.fst.isNeigh d ch c toa, true, ref, true, c, 0⟩
    let timely := decide (m ≤ c + b.cut)
    let add (b : Bn) (h : FHit) : Bn × List FHit :=
      if timely then (b.mapFst (fun f => { f with groups := mput f.groups c (mget f.groups c [] ++ [h]) [] }), late)
      else (b, late ++ [h])
    match k with
    | .stats => (b.stampHit f d ch c toa tot, late)
    | .diag => add b h
    | _ =>
      if band = 2 then (b.ringPut h, late)
      else
        let (b1, h1) := b.correct v h
        let j := b1.fst.judge c
        add b1 { h1 with kept := j.level != 3 && (h1.sat || decide (j.cut ≤ tot)) }

/-- Frames of a die that were lost are covered, now that the crossings under SKIP are known (R42, R142, R39): an absent frame in a
reference switch is covered by its SKIP mark. -/
def Bn.settleLoss (b : Bn) (d : Nat) (ready : Nat × Nat × Bool → Bool) : Bn :=
  let go (p : Nat × Nat × Bool) : Bool := p.1 == d && ready p
  let b1 := (b.fst.lossPend.filter go).foldl (fun b p =>
    if p.2.2 && (b.fst.skipAt p.2.1).testBit d then b
    else b.loss (2 ^ d) 15 ((p.2.1 : Int) - 31) (p.2.1 + 1) 1) b
  b1.mapFst (fun f => { f with lossPend := f.lossPend.filter (fun p => !go p) })

/-- The loss report of a frame (R125): one mark per set of trays with equal ages. -/
def Bn.lossReport (b : Bn) (d r w : Nat) : Bn :=
  let pair (t : Nat) : Nat := bitsOf w (10 * t + 9) (10 * t)
  ((List.range 4).filter (fun t => pair t != 0 && (List.range t).all (fun u => pair u != pair t))).foldl (fun b t =>
    let trays := (List.range 4).foldl (fun a u => if pair u = pair t then a + 2 ^ u else a) 0
    b.loss (2 ^ d) trays ((r : Int) - (pair t / 32 : Nat)) ((r : Int) - (pair t % 32 : Nat)) 0) b

/-- A saturation notice of a frame (R121). -/
def Bn.noticeIn (b : Bn) (d m : Nat) (w : Nat) : Bn :=
  if bitOf w 39 then
    b.mapFst (fun f => { f with notices := f.notices ++ [(d, bitsOf w 38 33, m - bitsOf w 28 24, bitsOf w 23 9)] })
  else b

/-- The pulse of a train that a frame reports (R102, R118). -/
def Bn.pulseIn (b : Bn) (d m : Nat) : Bn :=
  if b.stats.armed ∨ b.stats.collecting then
    { b with stats := { b.stats with armed := false, collecting := true, pulses := b.stats.pulses ++ [(d, m)], lastPulse := some m } }
  else b

/-- A reference switch that a frame reports (R144): two crossings under SKIP. -/
def Bn.switchIn (b : Bn) (d m : Nat) : Bn :=
  (b.mapFst (fun x => { x with skips := x.skips ++ [(2 ^ d, m - 2), (2 ^ d, m - 1)] })).putMark
    (markWords 6 (2 ^ d * 4) (wof ((m - 2) % 2 ^ 16)) [wof ((m - 1) % 2 ^ 16)])

/-- The epoch of a frame (R142): a change is covered from the last frame before it, and marked. -/
def Bn.epochIn (b : Bn) (d m ep : Nat) : Bn :=
  let b1 := match b.fst.epochs.find? (fun p => p.1 == d) with
    | some (_, e, m0) =>
      if e = ep then b
      else (b.loss (2 ^ d) 15 ((m0 : Int) - 30) ((m : Int) - 1) 2).putMark (markWords 0x11 (d * 16 + ep) (wof (m % 2 ^ 16)) [])
    | none => b
  b1.mapFst (fun x => { x with epochs := mins d (ep, m) (mdel x.epochs d) })

/-- A crossing that a die spent SAFE (R139). -/
def Bn.safeIn (b : Bn) (d m : Nat) : Bn :=
  let under := b.fst.skipAt m
  if under.testBit d then b else b.cover 3 (2 ^ d) m

/-- A valid frame of a die: header, slots, notices, loss report (R118-R125). -/
def Bn.validIn (b : Bn) (k : Std) (v : Variant) (f : Fv) (d m : Nat) (beats : List Dbl) (late : List FHit) : Bn × List FHit :=
  let w := (beats.getD 0 0).toNat
  let sw := bitOf w 5
  let b1 := (if sw then b.switchIn d m else b).settleLoss d (fun _ => true)
  let b2 := b1.epochIn d m (bitsOf w 27 24)
  let b3 := if bitOf w 4 then b2.mapFst (fun x => { x with ldrops := x.ldrops ++ [m] }) else b2
  let b4 := if bitOf w 7 then b3.safeIn d m else b3
  let b5 := if bitOf w 3 then b4.lossReport d (if sw then m - 2 else m) (beats.getD 30 0).toNat else b4
  let b6 := if k == .stats && bitOf w 1 then b5.pulseIn d m else b5
  let r := (List.range 24).foldl (fun (x : Bn × List FHit) i => x.1.slotIn k v f d m beats (bitOf w 6) x.2 i) (b6, late)
  ((r.1.noticeIn d m (beats.getD 28 0).toNat).noticeIn d m (beats.getD 29 0).toNat, r.2)

/-- The frame of a die presented in the current crossing, that of the crossing before. A frame without a VALID verdict is lost;
its coverage waits until the crossings under SKIP are known (R42, R39). -/
def Bn.frameIn (b : Bn) (k : Std) (v : Variant) (f : Fv) (d : Die) (late : List FHit) : Bn × List FHit :=
  let g := b.ligIn d
  let m := b.now - 1
  let verdict := if g.judged = some b.xc then g.verdict else 3
  if verdict = 0 then b.validIn k v f d m g.beats late
  else (b.mapFst (fun x => { x with lossPend := x.lossPend ++ [(d.val, m, verdict == 3)], ldrops := x.ldrops ++ [m] }), late)

/-! Dense windows (R317-R322). -/

/-- The window after a trigger of crossing T (R319), with DW (R315). -/
def Bn.openWindow (b : Bn) (t : Int) : Bn × Nat :=
  let pre := (b.rd 0x240D).toNat
  let post := (b.rd 0x240E).toNat
  if b.denseOk = false then (b, 3)
  else
    match b.fst.window with
    | some w =>
      let l := min (max (w.l : Int) (t + post)) ((w.b + (b.rd 0x240F).toNat : Nat) - 1)
      (b.mapFst (fun f => { f with window := some { w with l := l.toNat } }), 2)
    | none =>
      let low : Int := match b.fst.lastWin with
        | some (_, l0) => (l0 : Int) + 1
        | none => b.acq.s
      let b0 := max (max (t - pre) b.acq.s) low
      let l := t + post
      let win := match b.fst.lastWin with
        | some (n, _) => (n + 1) % 256
        | none => 0
      if l < b0 then (b, 3)
      else (b.mapFst (fun f => { f with window := some ⟨win, b0.toNat, l.toNat, b0.toNat, 0⟩ }), 1)

/-- The TRIG mark of the crossing, and its window (R314, R315, R317). -/
def Bn.trigMark (b : Bn) (k : Std) : Bn :=
  match b.time.trigShown with
  | some y =>
    let t : Int := (b.now : Int) - 1 - (b.rd 0x240C).toNat
    let sel := b.rd 0x2411
    let (b1, dw) := if k.full = true ∧ y &&& fld sel 15 8 = fld sel 7 0 then b.openWindow t else (b, 0)
    b1.putMark (markWords 1 y (wof (dw * 2 ^ 18 + ofInt t 16)) [])
  | none => b

/-- The window ends; its number and planned end are kept (R319, R321, R322). -/
def Bn.endWindow (b : Bn) (w : Window) : Bn := b.mapFst (fun f => { f with window := none, lastWin := some (w.win, w.l) })

/-- A window that ends early (R322). -/
def Bn.truncate (b : Bn) (w : Window) (cause : Nat) : Bn :=
  (b.endWindow w).putMark (markWords 4 w.win (wof (cause * 2 ^ 18 + w.nextC % 2 ^ 16)) [])

/-- The hits of a crossing leave the ring, corrected (R318, R320); a read that does not deliver is a RINGDROP. -/
def Bn.ringTake (b : Bn) (v : Variant) (hs : List FHit) : Bn × List FHit :=
  hs.foldl (fun (x : Bn × List FHit) h =>
    let r := x.1.formeGet 32
    if r.2 then
      let y := r.1.correct v h
      (y.1, x.2 ++ [y.2])
    else (r.1.mapFst (fun f => { f with ringDrop := f.ringDrop ++ [h.xc] }), x.2)) (b, [])

/-- Whether frames that can carry hits of a crossing dropped low-band hits, or were not VALID (R321). -/
def FormeSt.ldropOf (f : FormeSt) (c : Nat) : Bool := f.ldrops.any (fun m => decide (c + 1 ≤ m) && decide (m ≤ c + 31))

/-- The next group of the window is emitted (R320, R321): its cells in queue 35, the part for the sheets. -/
def Bn.emitGroup (b : Bn) (v : Variant) (w : Window) (hs : List FHit) : Bn :=
  let c := w.nextC
  let b0 := b.mapFst (fun f => { f with ring := f.ring.filter (fun h => h.xc != c) })
  let (b1, taken) := b0.ringTake v hs
  let recs := sortHits taken
  let f := b1.fst
  let begin_ := markWords 2 w.win (wof (b2n (c == w.b) * 2 ^ 19 + c % 2 ^ 16)) []
  let end_ := markWords 3 w.win (wof (b2n (c == w.l) * 2 ^ 19 + b2n (f.ldropOf c) * 2 ^ 18 + b2n (f.ringDrop.contains c) * 2 ^ 17 + c % 2 ^ 16))
    [wof recs.length]
  let ds := toDoubles begin_ ++ recs.map (fun h => dbl (h.words.getD 0 0) (h.words.getD 1 0)) ++ toDoubles end_
  let b2 := (chunks16 ds (ds.length + 1)).foldl (fun b it => (b.formePut 35 it).1) b1
  let span := (recs.length + 63) / 64
  let p : FPart := ⟨c, false, some (begin_, end_), recs, [], b.now + (span - 1) + 1 - b.primLat, false⟩
  let b3 := b2.mapFst (fun f => { f with parts := insertBy (fun a z => decide (a.xc < z.xc)) p f.parts })
  if c = w.l then b3.endWindow w
  else b3.mapFst (fun f => { f with window := some { w with nextC := c + 1, free := b.xc + (span - 1) } })

/-- Dense groups that are due (R320, R322): at most 64 low-band records a crossing. -/
def Bn.denseStep (b : Bn) (v : Variant) (used : Nat) : Nat → Bn
  | 0 => b
  | k + 1 =>
    match b.fst.window with
    | none => b
    | some w =>
      let c := w.nextC
      if b.now < c + 32 ∨ b.xc < w.free then b
      else if b.denseOk = false then b.truncate w 1
      else if c + 32 + fld (b.rd 0x2410) 10 0 < b.now then b.truncate w 2
      else
        let hs := b.fst.ring.filter (fun h => h.xc == c)
        let n := hs.length
        let cells := (n + 4) / 2 + 9
        if b.quota 35 < (b.queue 35).cells.length + cells ∨ b.gal.avail < b.reserved 35 + cells then b.truncate w 0
        else if 0 < used ∧ 64 < used + n then b
        else (b.emitGroup v w hs).denseStep v (used + n) k

/-- Hits that have been in the ring long enough leave it at the end of the crossing (R318). -/
def Bn.ringExpire (b : Bn) : Bn :=
  let depth := fld (b.rd 0x2410) 10 0
  let gone (h : FHit) : Bool := decide (h.xc + 32 + depth ≤ b.now)
  let n := (b.fst.ring.filter gone).length
  ((b.formeGets 32 n).1).mapFst (fun f => { f with ring := f.ring.filter (fun h => !gone h) })

/-! Flushes (R293): what stood in a queue is lost to the forme. -/

/-- The newest `n` of a list in the order of writes. -/
def keepNewest (n : Nat) (seqs : List Nat) : Nat → Bool :=
  let sorted := seqs.foldl (fun l a => insertBy (fun x y => decide (x < y)) a l) []
  match sorted.drop (sorted.length - n) with
  | [] => fun _ => false
  | lo :: _ => fun s => decide (lo ≤ s)

/-- The queues that a QUEUE_FLUSH or a fault emptied: their records, marks and ring entries are lost. -/
def Bn.reconcile (b : Bn) : Bn :=
  let b0 := ([0, 1, 2, 3, 4, 5, 6, 7, 32, 35] : List Nat).foldl (fun b q => b.formeFlushed q) b
  let b1 := (List.range 6).foldl (fun b d =>
    let mine := (b.fst.parts.filter (fun p => p.dense.isNone)).flatMap (fun p => (p.hits.filter (fun h => h.die == d)).map (·.seq))
    let n := (b.queue d).count
    if n < mine.length then
      let ok := keepNewest n mine
      b.mapFst (fun f => { f with parts := f.parts.map (fun p =>
        if p.dense.isSome then p else { p with hits := p.hits.filter (fun h => h.die != d || ok h.seq) }) })
    else b) b0
  let lost := b1.fst.ring.length - (b1.queue 32).count
  let b2 := b1.mapFst (fun f => { f with ringDrop := f.ringDrop ++ (f.ring.take lost).map (·.xc), ring := f.ring.drop lost })
  let need := ((b2.fst.marks ++ (b2.fst.anchors.map (·.2)).flatten).filter (·.2)).foldl (fun a m => a + (m.1.length + 1) / 2) 0
  let b3 := if (b2.queue 7).count < need then
      b2.mapFst (fun f => { f with
        marks := f.marks.filter (fun m => !m.2), anchors := f.anchors.map (fun a => (a.1, a.2.filter (fun m => !m.2))) })
    else b2
  let dense := (b3.fst.parts.filter (fun p => p.dense.isSome)).foldl (fun a p => a + 3 + p.hits.length - b2n p.begun) 0
  let b4 := if (b3.queue 35).count < dense then b3.mapFst (fun f => { f with parts := f.parts.filter (fun p => p.dense.isNone) }) else b3
  let cls := b4.fst.parts.foldl (fun a p => p.clusters.foldl (fun a c => a + c.2.length) a) 0
  if (b4.queue 6).count < cls then b4.mapFst (fun f => { f with parts := f.parts.map (fun p => { p with clusters := [] }) }) else b4

/-! STATS results (R102-R104). -/

/-- The integer square root, bit by bit. -/
def isqrt (n : Nat) : Nat → Nat → Nat
  | 0, r => r
  | k + 1, r => if (r + 2 ^ k) * (r + 2 ^ k) ≤ n then isqrt n k (r + 2 ^ k) else isqrt n k r

/-- The seven result words of one quantity (R103, R104). -/
def statWords (xs : List Nat) : List Word :=
  let n := xs.length
  let s := xs.foldl (· + ·) 0
  let s2 := xs.foldl (fun a x => a + x * x) 0
  let mean := (32 * s + n) / (2 * n)
  let var := 256 * (n * s2 - s * s) / (n * n)
  [wof (mean / 16), wof (mean % 16 * 2 ^ 16), wof (var / 2 ^ 20), wof var, wof (isqrt var 24 0),
    wof (xs.foldl min (xs.headD 0)), wof (xs.foldl max 0)]

/-- The result block of a channel (R104). -/
def statBlock (d ch : Nat) (st : List (Nat × Nat)) : List Word :=
  let w0 := d * 2 ^ 17 + ch * 2 ^ 7
  if st = [] then wof (w0 + 1) :: List.replicate 15 0
  else wof w0 :: wof st.length :: (statWords (st.map (·.1)) ++ statWords (st.map (·.2)))

/-- The channels of a die that take part in a collection (R102). -/
def Fv.injected (f : Fv) : List Nat := (List.range 1024).filter (fun c => wbit (f.rd (0x1000 + 2 * c)) 5)

/-- The end of a collection (R102, R104): every channel holds N stamps, or 16 crossings have passed since the last pulse of the
train. The blocks go to queue 33, and in STATS marks to the sheets. -/
def Bn.statsStep (b : Bn) (s : State) : Bn :=
  let st := b.stats
  let full := s.dies.all (fun d => (s.fv d).injected.all (fun c =>
    decide ((b.rd 0x3800).toNat ≤ (mget st.stamps (1024 * d.val + c) []).length)))
  let tooLong := match st.lastPulse with
    | some p => decide (p + 16 < b.now) && s.dies.all (fun d => (s.fv d).train.isNone)
    | none => false
  if st.collecting = true ∧ (full || tooLong) = true then
    let b1 := s.dies.foldl (fun b d => (s.fv d).injected.foldl (fun b c =>
      let ws := statBlock d.val c (mget st.stamps (1024 * d.val + c) [])
      (b.formePut 33 (toDoubles ws)).1.putMark (markWords 0x0C 0 (ws.getD 0 0) (ws.drop 1))) b) b
    { b1 with stats := { st with collecting := false, done := true, pulses := [] } }
  else b

/-! The crossing. -/

/-- Marks enter queue 7 in order, as far as it admits them (R289): the die, the marks, and whether one was refused. -/
def Bn.admitList (b : Bn) (ms : List (List Word × Bool)) : Bn × List (List Word × Bool) × Bool :=
  ms.foldl (fun (x : Bn × List (List Word × Bool) × Bool) m =>
    if m.2 then (x.1, x.2.1 ++ [m], x.2.2)
    else if x.2.2 then (x.1, x.2.1 ++ [m], true)
    else
      let r := x.1.formePut 7 (toDoubles m.1)
      (r.1, x.2.1 ++ [(m.1, r.2)], !r.2)) (b, [], false)

/-- The marks of the crossing enter queue 7, those of the anchors first (R289, R294). -/
def Bn.admitMarks (b : Bn) : Bn :=
  let r := b.fst.anchors.foldl (fun (x : Bn × List (Nat × List (List Word × Bool))) a =>
    let y := x.1.admitList a.2
    (y.1, x.2 ++ [(a.1, y.2.1)])) (b, [])
  let t := r.1.admitList r.1.fst.marks
  t.1.mapFst (fun f => { f with marks := t.2.1, anchors := r.2 })

/-- The RATE mark (R329) and the THROTTLE mark (R536) of the crossing. -/
def Bn.changeMarks (b : Bn) (k : Std) : Bn :=
  let a := b.acq
  let x1 := wof ((b.now + 2 ^ 48 - 1) % 2 ^ 16)
  let b1 := if k.full = true ∧ (a.level ≠ a.prevLevel ∨ a.totcut ≠ a.prevTotcut) then
      b.putMark (markWords 0x12 (a.prevLevel * 4 + a.level) x1 [wof a.totcut]) else b
  if a.thermNow ≠ a.thermPrev then
    b1.putMark (markWords 0x0F (fld a.thermPrev 19 18 * 64 + fld a.thermNow 19 18 * 16 + fld a.thermNow 3 0) x1
      [wof (fld a.thermNow 17 12)])
  else b1

/-- The judgement of the crossing before (R327, R328, R535): its level and cut; a thermal SKIP; a dropped crossing. -/
def Bn.judgeStep (b : Bn) (k : Std) (mask : Nat) : Bn :=
  let c := b.now - 1
  let j : Judge := ⟨b.acq.level, b.acq.totcut, b.acq.thermNow⟩
  let b1 := b.mapFst (fun f => { f with judges := mput (f.judges.filter (fun p => decide (c ≤ p.1 + 40))) c j ⟨0, 0, 0⟩ })
  if k.full = false ∨ b.acq.inRun c = false then b1
  else
    let b2 := if j.skips c then
        (b1.mapFst (fun f => { f with skips := f.skips ++ [(mask, c)] })).putMark
          (markWords 6 (mask * 4 + 1) (wof (c % 2 ^ 16)) [wof (c % 2 ^ 16)])
      else b1
    if j.level = 3 then b2.mapFst (fun f => { f with rateHold := f.rateHold ++ [c] }) else b2

/-- Dropped crossings whose SKIP coverage is known join their runs (R328, R39). -/
def Bn.rateStep (b : Bn) (mask : Nat) : Bn :=
  let ready := b.fst.rateHold.filter (fun c => decide (c + 3 ≤ b.now))
  let b1 := ready.foldl (fun b c =>
    let m := maskOff mask (b.fst.skipAt c)
    if m = 0 then b else b.cover 4 m c) b
  (b1.mapFst (fun f => { f with rateHold := f.rateHold.filter (fun c => decide (b.now < c + 3)) })).closeCovers 4 (b.now - 3)

/-- A doze is recognised by the jump of the crossing (R482): the frames that were never presented are covered by one mark. -/
def Bn.dozeLoss (b : Bn) (mask : Nat) : Bn :=
  match b.fst.lastX with
  | some x => if x + 1 < b.now then b.loss mask 15 ((x : Int) - 31) ((b.now : Int) - 1) 1 else b
  | none => b

/-- The anchor of the sheet of four crossings ago, and its SWITCH mark (R172, R422). -/
def Bn.anchorIn (b : Bn) (k : Std) : Bn :=
  match b.ancDue with
  | some a =>
    let ws := a.words
    let anc := markWords 9 (ws.getD 0 0).toNat (ws.getD 1 0) (ws.drop 2)
    let sw := if a.cause = 2 ∧ k.full = true then
        [markWords 0x10 (b2n (b.fst.lastAnc.getD false) * 2 + b2n a.src) (wof (a.counter % 2 ^ 16)) []] else []
    b.mapFst (fun f => { f with anchors := f.anchors ++ [(a.counter, (anc :: sw).map (fun m => (m, false)))], lastAnc := some a.src })
  | none => b

/-- What is too old to matter is forgotten. -/
def FormeSt.prune (f : FormeSt) (now : Nat) : FormeSt :=
  let keep (n c : Nat) : Bool := decide (now ≤ c + n)
  { f with
    notices := f.notices.filter (fun n => keep 64 n.2.2.1)
    skips := f.skips.filter (fun p => keep 128 p.2)
    ldrops := f.ldrops.filter (keep 1200)
    ringDrop := f.ringDrop.filter (keep 1200)
    prims := f.prims.filter (fun p => keep 128 p.1) }

/-- The work of a standard forme in the current crossing of a run. -/
def Bn.formeStep (b : Bn) (k : Std) (s : State) : Bn :=
  let mask := s.dieMask
  let b1 := (((b.reconcile.dozeLoss mask).judgeStep k mask).changeMarks k).trigMark k
  let (b2, late) := s.dies.foldl (fun (x : Bn × List FHit) d => x.1.frameIn k s.variant (s.fv d) d x.2) (b1, [])
  let b3 := s.dies.foldl (fun b d => b.settleLoss d.val (fun p => decide (p.2.1 + 4 ≤ b.now))) b2
  let b4 := (b3.rateStep mask).closeCovers 3 (b.now - 1)
  let due := b4.fst.groups.filter (fun p => decide (p.1 + b.cut + 1 ≤ b.now))
  let b5 := due.foldl (fun b p => b.closeGroup k p.1 p.2 false) (b4.mapFst (fun f =>
    { f with groups := f.groups.filter (fun p => decide (b.now < p.1 + b.cut + 1)) }))
  let lateXc := late.foldl (fun l h => if l.contains h.xc then l else insertBy (fun a z => decide (a < z)) h.xc l) ([] : List Nat)
  let b6 := lateXc.foldl (fun b c => b.closeGroup k c (late.filter (fun h => h.xc == c)) true) b5
  let b7 := if k.full then (b6.denseStep s.variant 0 64).ringExpire else b6
  let b8 := if k = .stats then b7.statsStep s else b7
  ((b8.anchorIn k).admitMarks).mapFst (fun f => { f.prune b.now with lastX := some b.now })

end Sys2Proof.Machine
end

