-- ==== Sys2Proof/Machine/Sheet.lean ====
section
/-! DEFINITION. Data sheets (R334-R347, R353-R362, R401, R298): what a standard forme puts into a sheet, the justifier, the control
region, the check, the replay reserve. -/

namespace Sys2Proof.Machine

/-! The payload of a standard forme. -/

/-- A payload that fills: the unit, the bits placed, whether an item did not fit. -/
structure Fill where
  b : Bn
  bits : List Bool
  full : Bool
deriving DecidableEq, Repr

/-- Whether an item of `n` bits fits below the cap (R362). -/
def Fill.room (x : Fill) (cap n : Nat) : Bool := !x.full && decide (x.bits.length + n ≤ cap)

/-- An item did not fit: the sheet takes no more. -/
def Fill.stop (x : Fill) : Fill := { x with full := true }

/-- An item is placed. -/
def Fill.put (x : Fill) (bs : List Bool) : Fill := { x with bits := x.bits ++ bs }

/-- Whether a mark is a LOSS of every FV die present and all four trays (R359). -/
def fullLoss (mask : Nat) (ws : List Word) : Bool :=
  markType ws == 5 && fld (ws.headD 0) 7 2 == mask && fld (ws.getD 1 0) 19 16 == 15

/-- The marks of queue 7, in order, as far as they fit (R359). A LOSS of every die goes only into a sheet that a KEY opens. -/
def Fill.marks (cap : Nat) (comp keyed : Bool) (mask : Nat) : List (List Word × Bool) → Fill → Fill
  | [], x => x
  | (ws, queued) :: t, x =>
    let bs := markBits comp ws
    if queued = false then x
    else if (comp && !keyed && fullLoss mask ws) = true ∨ x.room cap bs.length = false then x.stop
    else
      let r := x.b.formeGets 7 ((ws.length + 1) / 2)
      let b1 := r.1.mapFst (fun f => { f with marks := f.marks.drop 1 })
      Fill.marks cap comp keyed mask t (if r.2 then { x with b := b1 }.put bs else { x with b := b1 })

/-- The marks ANCHOR and SWITCH of the sheet of a crossing (R172, R422). -/
def FormeSt.anchorsOf (f : FormeSt) (n : Nat) : List (List Word × Bool) :=
  ((f.anchors.filter (fun a => a.1 == n)).map (·.2)).flatten

/-- The marks of an anchor leave queue 7: those that came (R290). -/
def Bn.takeAnchors (b : Bn) : List (List Word × Bool) → Bn × List (List Word)
  | [] => (b, [])
  | (ws, queued) :: t =>
    let r := if queued then b.formeGets 7 ((ws.length + 1) / 2) else (b, true)
    let y := r.1.takeAnchors t
    (y.1, if r.2 then ws :: y.2 else y.2)

/-- The opening of a sheet: the KEY item, the TABLE marks after a periodic one, the anchor (R358, R359, R172). -/
def Bn.openSheet (b : Bn) (n : Nat) (comp : Bool) (cause : Option Nat) : Fill :=
  let ta := b.takeAnchors (b.fst.anchorsOf n)
  let anc := ta.2.flatMap (markBits comp)
  let b0 := ta.1.mapFst (fun f => { f with anchors := f.anchors.filter (fun a => decide (n < a.1)) })
  match cause with
  | none => ⟨b0, anc, false⟩
  | some c =>
    let zeros := List.replicate 20 0
    let tabs := if c = 1 then ([0, 1, 2] : List Nat).map (fun i => tableMark i (builtTab i (mget b.fst.counts i zeros))) else []
    ⟨b0.mapFst (fun f => tabs.foldl FormeSt.install f.keyReset), keyBits c ++ tabs.flatMap (markBits true) ++ anc, false⟩

/-- The causes of a KEY that do not depend on the marks, lowest first (R359). -/
def Bn.keyCause (b : Bn) (n : Nat) : Option Nat :=
  if n = b.acq.s ∧ b.fst.startKey = true then some 0
  else if n % 4096 = 0 then some 1
  else if (b.fst.anchorsOf n).any (fun m => markType m.1 == 0x10) then some 2
  else none

/-- The hits of a part, in order, as far as they fit (R353-R357). A hit that its queue does not deliver is passed over. -/
def Fill.hits (cap : Nat) (comp : Bool) (q : FHit → Nat) : List FHit → Fill → PartCode → Fill × PartCode × List FHit
  | [], x, p => (x, p, [])
  | h :: t, x, p =>
    let c := if comp then x.b.fst.codeHit p h else (wordBits h.words, x.b.fst, p)
    if x.room cap c.1.length then
      let r := x.b.formeGet (q h)
      if r.2 then Fill.hits cap comp q t ({ x with b := r.1.mapFst (fun _ => c.2.1) }.put c.1) c.2.2
      else Fill.hits cap comp q t { x with b := r.1 } p
    else (x.stop, p, h :: t)

/-- The cluster records that queue 6 delivers. -/
def Bn.getClusters (b : Bn) (rs : List (Word × Word)) : Bn × List (Word × Word) :=
  rs.foldl (fun (y : Bn × List (Word × Word)) r =>
    let g := y.1.formeGet 6
    (g.1, if g.2 then y.2 ++ [r] else y.2)) (b, [])

/-- The CLUSTER mark of some records of a die in a group (R352). -/
def clusterMark (d c n : Nat) : List Word := markWords 0x0E n (wof (d * 2 ^ 17 + c % 2 ^ 16)) []

/-- The clusters of a part, die by die, each with its mark, as far as they fit (R352, R354). -/
def Fill.clusters (cap : Nat) (comp : Bool) (c : Nat) : List (Nat × List (Word × Word)) → Fill → Fill × List (Nat × List (Word × Word))
  | [], x => (x, [])
  | (d, rs) :: t, x =>
    let head := (markBits comp (clusterMark d c 0)).length
    let each := (clusterBits comp (0, 0)).length
    let m := min (min rs.length 255) ((cap - x.bits.length - head) / each)
    if x.full = true ∨ m = 0 then (x.stop, (d, rs) :: t)
    else
      let (b1, ok) := x.b.getClusters (rs.take m)
      let y := { x with b := b1 }
      let z := if ok = [] then y else y.put (markBits comp (clusterMark d c ok.length) ++ ok.flatMap (clusterBits comp))
      if m < rs.length then (z.stop, (d, rs.drop m) :: t) else Fill.clusters cap comp c t z

/-- The bits of the first item after the opening of a part. -/
def FPart.firstBits (p : FPart) (comp : Bool) (f : FormeSt) : Nat :=
  match p.hits, p.clusters, p.dense with
  | h :: _, _, _ => if comp then (f.codeHit .start h).1.length else 40
  | [], _ :: _, _ => (markBits comp (clusterMark 0 0 0)).length + (clusterBits comp (0, 0)).length
  | [], [], some (_, e) => (markBits comp e).length
  | [], [], none => 0

/-- A group that begins at an XC item (R354, R357): what fits; what is left opens again with an XC in a later sheet (R345). -/
def Fill.xcPart (x : Fill) (cap : Nat) (comp : Bool) (p : FPart) : Fill × List FPart :=
  let opening := xcBits comp p.late p.xc
  if p.hits = [] ∧ p.clusters = [] then (x, [])
  else if x.room cap (opening.length + p.firstBits comp x.b.fst) = false then (x.stop, [p])
  else
    let (y, pc, left) := Fill.hits cap comp (·.die) p.hits (x.put opening) .start
    let (z, cl) := if left = [] then Fill.clusters cap comp p.xc p.clusters y else (y, p.clusters)
    let w := if comp then { z with b := z.b.mapFst (fun f => f.endPart pc) } else z
    (w, if left = [] ∧ cl = [] then [] else [{ p with hits := left, clusters := cl }])

/-- A dense group (R321, R354): DENSE_BEGIN, the hits, DENSE_END. A group that a sheet cannot hold opens again with DENSE_BEGIN. -/
def Fill.densePart (x : Fill) (cap : Nat) (comp : Bool) (p : FPart) (begin_ end_ : List Word) : Fill × List FPart :=
  let opening := if p.begun = true ∧ p.hits = [] then [] else markBits comp begin_
  if x.room cap (opening.length + p.firstBits comp x.b.fst) = false then (x.stop, [p])
  else
    let b1 := if p.begun then x.b else (x.b.formeGet 35).1
    let (y, _, left) := Fill.hits cap comp (fun _ => 35) p.hits ({ x with b := b1 }.put opening) .start
    let e := markBits comp end_
    if left = [] ∧ y.room cap e.length = true then
      ({ y with b := (y.b.formeGets 35 ((end_.length + 1) / 2)).1 }.put e, [])
    else (y.stop, [{ p with hits := left, begun := true }])

/-- The parts that may leave in a sheet, in crossing order, as far as they fit (R359). -/
def Fill.parts (cap : Nat) (comp : Bool) (n : Nat) : List FPart → Fill → Fill × List FPart
  | [], x => (x, [])
  | p :: t, x =>
    if x.full then (x, p :: t)
    else if n < p.ready then
      let r := Fill.parts cap comp n t x
      (r.1, p :: r.2)
    else
      let r := match p.dense with
        | none => x.xcPart cap comp p
        | some (a, e) => x.densePart cap comp p a e
      let u := Fill.parts cap comp n t r.1
      (u.1, r.2 ++ u.2)

/-- The payload bits of a sheet at most (R362), for the forme and the lanes in force. -/
def Bn.payCap (b : Bn) : Nat :=
  let id := (b.rd 0x4051).toNat
  let c := 20 * (32 * fld (b.rd 0x2801) 2 0 - 17)
  min (c - 31) (if id = 0x2 then 909 else if id = 0x4 then 1549 else if id = 0x8 ∨ id = 0x18 then 2189 else 900)

/-- The payload of a standard forme for the sheet of crossing `n` (R359, R361): the bits, the unit, whether a KEY opens it. -/
def Bn.formeSheet (b : Bn) (k : Std) (mask n : Nat) : Bn × List Bool × Bool :=
  let comp := k.full
  let cap := b.payCap
  let marks (b : Bn) (cause : Option Nat) : Fill :=
    Fill.marks cap comp cause.isSome mask b.fst.marks (b.openSheet n comp cause)
  let cause := match if comp then b.keyCause n else none with
    | some c => some c
    | none =>
      let t := marks b (some 3)
      if comp && (b.fst.marks.take (b.fst.marks.length - t.b.fst.marks.length)).any (fun m => fullLoss mask m.1) then some 3 else none
  let x := marks b cause
  let (y, left) := Fill.parts cap comp n x.b.fst.parts x
  (y.b.mapFst (fun f => { f with parts := left }), y.bits, cause.isSome)

/-! The justifier. -/

/-- Code words placed into a payload of `c` bits (R344): the bits, and whether words were discarded. -/
def justify (c : Nat) : List (Nat × Nat) → List Bool → List Bool × Bool
  | [], acc => (acc, false)
  | (l, v) :: t, acc => if c < acc.length + 32 then (acc, true) else justify c t (acc ++ bitsMsb v l)

/-- Whether a first payload code word is a KEY item (R346). -/
def isKey (ws : List (Nat × Nat)) : Bool :=
  match ws with
  | (7, v) :: _ => v / 4 % 32 == 30
  | _ => false

/-- What fills a data sheet: primitive field, payload, KEY, OVERRUN. -/
structure SheetBody where
  prim : List Word
  bits : List Bool
  key : Bool
  overrun : Bool
deriving DecidableEq, Repr

/-- The body from code words (R343-R346): the first four are the primitive field. -/
def bodyOf (lanes : Nat) (comp : Bool) (ws : List (Nat × Nat)) : SheetBody :=
  let r := justify (20 * (32 * lanes - 17)) (ws.drop 4) []
  ⟨(List.range 4).map (fun i => wof (ws.getD i (0, 0)).2), r.1, comp && isKey (ws.drop 4), r.2⟩

/-- A number from bits, first bit first. -/
def bitsNat (bs : List Bool) : Nat := bs.foldl (fun a b => 2 * a + b2n b) 0

/-- Bits packed into `k` words, bit 19 first; the rest is 0. -/
def packWords (bs : List Bool) (k : Nat) : List Word := wordsOf (bitsNat bs * 2 ^ (20 * k - bs.length)) k

/-! The control region (R347). -/

/-- The rest of a mark from queue 34, up to its END: its words so far; none when a double of it cannot be read (R290). -/
def Bn.readMark (b : Bn) (acc : List Word) : Nat → Bn × Option (List Word)
  | 0 => (b, none)
  | k + 1 =>
    match b.qRead 34 b.cycle with
    | (b1, .data d fin) => if fin then (b1, some (acc ++ [dhi d, dlo d])) else b1.readMark (acc ++ [dhi d, dlo d]) k
    | (b1, _) => (b1, none)

/-- How many items stand in a queue. -/
def Queue.items (x : Queue) : Nat :=
  x.cells.foldl (fun a c => a + b2n c.end0 + b2n c.end1) 0 - (if x.headHalf then b2n ((x.cells.head?.map (·.end0)).getD false) else 0)

/-- The next mark of queue 34, if one waits: the marks before it are complete. -/
def Bn.nextMark (b : Bn) : Bn × Option (List Word) :=
  let b0 := b.formeFlushed 34
  let n := (b0.queue 34).items
  let b1 := { b0 with marksOut := b0.marksIn - n }
  if n = 0 then (b1, none)
  else
    match b1.readMark [] 17 with
    | (b2, some ws) => (b2, some (ws.take (2 + fld (ws.headD 0) 11 8)))
    | (b2, none) => ({ b2 with marksOut := b2.marksIn - (b2.queue 34).items }, none)

/-- Content words of a control region, `room` at most: the rest of the open mark, then marks of queue 34 in order. -/
def Bn.ctlWords (b : Bn) (acc : List Word) (room : Nat) : Nat → Bn × List Word
  | 0 => (b, acc)
  | k + 1 =>
    if room = 0 then (b, acc)
    else
      match b.ctl with
      | [] =>
        match b.nextMark with
        | (b1, some ws) => { b1 with ctl := ws }.ctlWords acc room k
        | (b1, none) => if (b1.queue 34).items = 0 then (b1, acc) else b1.ctlWords acc room k
      | ws =>
        let left := ws.drop room
        ({ b with ctl := left, marksOut := if left = [] then b.marksIn - (b.queue 34).items else b.marksOut }).ctlWords (acc ++ ws.take room)
          (room - ws.length) k

/-- A control region with its header (R347), and the unit after it. -/
def Bn.ctlRegion (b : Bn) (room : Nat) : Bn × List Word :=
  let cont := !b.ctl.isEmpty
  let r := b.ctlWords [] room (2 * room + 40)
  (r.1, wof (b2n cont * 2 ^ 19 + r.2.length) :: (r.2 ++ List.replicate (room - r.2.length) 0))

/-! The sheet. -/

/-- The lane health of a sheet of `n` lanes (R340). -/
def Bn.health (b : Bn) (n : Nat) : Nat :=
  ([0, 1, 2, 3] : List Lane).foldl (fun a l => a + (if l.val < n then 2 ^ (4 + l.val) + b2n (b.lane l).fault * 2 ^ l.val else 0)) 0

/-- The check double of a sheet (R340): over its words, with w2[5:4] as 0, and the health. -/
def checkWords (ws : List Word) (health : Nat) : List Word :=
  let bare := ws.set 2 (setFld (ws.getD 2 0) 5 4 0)
  let d := dof (crc32 (wordBits bare ++ bitsMsb health 8) * 2 ^ 8 + health)
  [dhi d, dlo d]

/-- CHECK of a data sheet (R401). -/
def sheetCheck (w0 w1 w2 : Word) (prim : List Word) (bits : List Bool) : Nat :=
  crc32 (wordBits (w0 :: w1 :: setFld w2 5 1 0 :: prim) ++ bits)

/-- A sheet is stored in its slot (R298, R307). -/
def Bn.storeSheet (b : Bn) (seq : Word) (ws : List Word) : Bn :=
  let base := 0x30000 + 32 * (seq.toNat % 2048)
  let w (i : Nat) : Word := ws.getD i 0
  let b1 := (List.range (ws.length / 4)).foldl (fun b i =>
    b.setCell (base + i) ⟨dbl (w (4 * i)) (w (4 * i + 1)), dbl (w (4 * i + 2)) (w (4 * i + 3)), 7, 0⟩) b
  (b1.wr 0x2C1C seq).wrN 0x2C1D (min 2048 ((b1.rd 0x2C1D).toNat + 1))

/-- A SYNC_ECHO mark that waits for the next sheet is queued (R166, R167). -/
def Bn.flushEcho (b : Bn) : Bn :=
  match b.time.echo with
  | some (id, seq) =>
    let q (o : Nat) : List Word := (List.range 4).map (fun i => b.rd (o + i))
    { b with time := { b.time with echo := none } }.ctlMark (markWords 0x13 id (wof seq) (q 0x1814 ++ q 0x1818))
  | none => b

/-- Unit flags and control region of a sheet that is assembled for live transmission (R339, R347, R410). -/
def Bn.liveParts (b : Bn) (sln2 : Bool) (seq : Word) : Bn × Nat × List Word :=
  if b.holds then
    let dly := match b.time.delayReq with
      | some x => decide (x ≤ b.xc + 1)
      | none => false
    let flags := b2n dly * 8 + b2n b.lease.claim * 4 + b2n (!sln2 && b.uncompared) * 2
    let before := b.marksOut
    let (b1, ctl) := b.flushEcho.ctlRegion 7
    let b2 := if dly then
        { b1 with time := { b1.time with delayReq := none }, sheets := { b1.sheets with dreq := some seq } } else b1
    ({ b2 with sheets := { b2.sheets with ctlIn := b2.sheets.ctlIn ++ [(seq, before)] } }, flags, ctl)
  else (b, 0, List.replicate 8 0)

/-- The data sheet of crossing `n` is assembled and stored (R335-R347, R364, R401). -/
def Bn.assemble (b : Bn) (sln2 : Bool) (n : Nat) (y : SheetBody) : Bn :=
  let lanes := fld (b.rd 0x2801) 2 0
  let comp := wbit (b.rd 0x2801) 19
  let seq := wof n
  let (b1, flags, ctl) := b.liveParts sln2 seq
  let len := y.bits.length
  let w1 := wof (n % 2 ^ 16)
  let w2 := wof (len * 2 ^ 8 + b2n comp * 128 + b2n y.key * 64 + flags + b2n y.overrun)
  let ws := seq :: w1 :: w2 :: (y.prim ++ packWords y.bits (32 * lanes - 17) ++ ctl)
  let b2 := b1.storeSheet seq (ws ++ checkWords ws (b.health lanes))
  let b3 := ((b2.wr 0x2802 seq).wrN 0x2803 len).wrN 0x2804 (max (b.rd 0x2804).toNat len)
  let b4 := if y.overrun then b3.bump 0x2805 else b3
  let b5 := if y.key then b4.bump 0x2806 else b4
  let a : Asm := ⟨b.xc, seq, sheetCheck seq w1 w2 y.prim y.bits, b.lease.role == .active, b.lease.role == .shadow⟩
  let first := match b.sheets.firstSeq with
    | some f => f
    | none => seq
  { b5 with sheets := { b5.sheets with asms := b5.sheets.asms.drop (b5.sheets.asms.length - 3) ++ [a], firstSeq := some first } }

/-- The work of a crossing of a run (R335): the standard forme's, then the sheet's, once PRIM_LAT crossings have begun. -/
def Bn.runCrossing (b : Bn) (s : State) : Bn :=
  let sln2 : Bool := s.variant == .sln2
  let words := b.arr.jwords
  let lanes := fld (b.rd 0x2801) 2 0
  let has := decide (b.acq.s + b.primLat ≤ b.now + 1)
  let n := b.now + 1 - b.primLat
  let done (b : Bn) : Bn := b.mapArr (fun a => { a with jwords := [] })
  match if words = [] then b.std else none with
  | some k =>
    let b1 := if b.fst.lastX = some b.now then b else b.formeStep k s
    if has then
      let prim := primWords (mget b1.fst.prims n (List.replicate 16 0))
      let (b2, bits, key) := b1.formeSheet k s.dieMask n
      b2.assemble sln2 n ⟨prim, bits, key && wbit (b.rd 0x2801) 19, false⟩
    else b1
  | none => done (if has then b.assemble sln2 n (bodyOf lanes (wbit (b.rd 0x2801) 19) words) else b)

/-- SHEET_ASSEMBLY (R335): once in each crossing of a run. -/
def execSheetAssembly (u : BnId) (s : State) : Host.Outcome State Fault Refusal :=
  let b := s.bn u
  .next (if s.hasBn u = true ∧ b.power.dev = .run ∧ b.power.clkWait = false ∧ (b.asmAt b.xc).isNone = true then
    s.mapBn u (fun b => b.runCrossing s)
  else s)

end Sys2Proof.Machine
end

