-- ==== Sys2Proof/Machine/Power.lean ====
section
/-! DEFINITION. Power states and clocks (R382, R439, R440, R466-R469, R478-R491): DOZE, SLEEP, the wake pattern and the wake sequence,
clock-source failures, the pantry's scrub and sweep, the timers of sessions and lockouts. -/

namespace Sys2Proof.Machine

/-! DOZE. -/

/-- The domains that DOZE retains (R480): those of the use mask, the galley banks, the justifier, the uplink lanes. -/
def Bn.dozeDoms (b : Bn) : List Nat := b.liveDoms ++ (List.range 16).map (136 + ·) ++ [165, 152, 153, 154, 155]

/-- Every result in flight lands (R480). -/
def Bn.landAll (b : Bn) : Bn :=
  b.mapArr (fun a => { a with comps := a.comps.map (fun p =>
    (p.1, p.2.settle (p.2.flight.foldl (fun m f => max m f.due) 0))) })

/-- The bias of the FV dies at entry (R480): the pantry's copy is kept until the die is read; the holder reads each die. -/
def Bn.dozeBias (b : Bn) (dies : List Die) : Bn :=
  let kept := dies.foldl (fun a d => a + fld (b.pw ((pantryFv d 0x0808).getD 0)) 1 0 * 4 ^ d.val) 0
  let b1 := b.wrN 0x1007 kept
  if b.holds then dies.foldl (fun b d => b.ask d 0 0x0808 0 .dozeRead) b1 else b1

/-- The serializer of an uplink lane stops (R480). -/
def Bn.serialDown (b : Bn) (l : Lane) : Bn := b.setLane l { b.lane l with st := .idle, lol := true, fault := true }

/-- The boundary of D (R480, R487): a latched wake event sets X at once. -/
def Bn.dozeIn (b : Bn) (dies : List Die) : Bn :=
  let latched := b.power.wakeLatched
  let b1 := b.dozeDoms.foldl Bn.domRetain b.landAll
  let b2 := ([0, 1, 2, 3] : List Lane).foldl Bn.serialDown b1
  let b3 := (b2.mapPower (fun p => { p with
    dev := .doze, runBefore := b.power.dev == .run, entry := none, wakeLatched := false, dozeD := b.xc
    dozeX := if latched then some (b.xc + 2) else none }))
  let b4 := (b3.wrN 0x1003 b.now).bump 0x1008
  (if latched then b4.bit 0x1000 16 true else b4).dozeBias dies

/-- Whether an accepted entry begins at this boundary. -/
def Bn.entryDue (b : Bn) (doze : Bool) : Bool :=
  match b.power.entry with
  | some e => e.doze == doze && (e.d.any (fun x => decide (x ≤ b.xc))) && (b.power.dev == .ready || b.power.dev == .run)
  | none => false

/-- DOZE_ENTRY (R480). -/
def execDozeEntry (u : BnId) (s : State) : Host.Outcome State Fault Refusal :=
  let b := s.bn u
  .next (if s.hasBn u = true ∧ b.entryDue true = true ∧ b.power.clkWait = false then s.mapBn u (fun b => b.dozeIn s.dies) else s)

/-- The gap of a DOZE entered from RUN (R482). -/
def Bn.dozeGap (b : Bn) : Bn :=
  let lat := wof b.primLat
  (b.wr 0x1005 (b.rd 0x1003 - lat + 1#20)).wr 0x1006 (wof b.now - lat)

/-- The boundary of X (R481, R482). -/
def Bn.dozeOut (b : Bn) (dies : List Die) : Bn :=
  let run := b.power.runBefore
  let b1 := (b.power.doms.map (·.1)).foldl Bn.domResume b
  let b2 := (b1.mapPower (fun p => { p with dev := if run then .run else .ready, dozeX := none })).wrN 0x1004 b.now
  let b3 := if run then b2.dozeGap else b2
  if b3.holds then dies.foldl (fun b d => b.ask d 1 0x0808 (wof (fld (b3.rd 0x1007) (2 * d.val + 1) (2 * d.val))) .none) b3 else b3

/-- DOZE_EXIT (R481). -/
def execDozeExit (u : BnId) (s : State) : Host.Outcome State Fault Refusal :=
  let b := s.bn u
  .next (if s.hasBn u = true ∧ b.power.dev = .doze ∧ b.power.clkWait = false ∧ (b.power.dozeX.any (fun x => decide (x ≤ b.xc))) = true then
    s.mapBn u (fun b => b.dozeOut s.dies)
  else s)

/-- DOZE_LIMIT: the crossing D + DOZE_RUN_MAX - 1 of a DOZE entered from RUN (R481). -/
def execDozeLimit (u : BnId) (s : State) : Host.Outcome State Fault Refusal :=
  let b := s.bn u
  .next (if s.hasBn u = true ∧ b.power.dev = .doze ∧ b.power.runBefore = true ∧ b.power.dozeX = none ∧
      b.power.dozeD + (b.rd 0x1002).toNat ≤ b.xc + 1 then
    s.mapBn u (fun b => (b.mapPower (fun p => { p with dozeX := some (b.xc + 2) })).bit 0x1000 14 true)
  else s)

/-! SLEEP and waking. -/

/-- Step 1 of the wake sequence (R485): the control domain, the XO, the pantry scrubbed once through. -/
def Bn.wakeStep1 (b : Bn) (v : Variant) : Bn :=
  let b1 := (b.pantry.flips.map (·.1)).foldl (fun b c => b.pantryRead v c) b
  (((b1.openRecord v).stepTo 1).mapPower (fun p => { p with ctrlIn := 1, xoOk := true })).bumpN 0x1406 2 20 |>.domUp 169

/-- The domains of step 2 of the wake sequence (R485). -/
def wakeDoms (v : Variant) (dies : List Die) : List Nat :=
  [168, 156] ++ (List.range 16).map (136 + ·) ++ [165, 152, 153, 154, 155, 166, 167] ++
    (if v = .sln2 then [] else [157, 158]) ++ dies.map (fun d => 159 + d.val)

/-- The wake sequence up to the wait for the downlink (R485, R553, R554): a checker failure ends it, and the die restarts. -/
def Bn.wakeRun (b : Bn) (v : Variant) (dies : List Die) : Bn :=
  let b0 := b.mapPower (fun p => { p with dev := .boot, bursts := 0 })
  let b1 := (b0.mapBoot (fun x => { x with wakeSeq := true, cause := 4, step := 1 })).wakeStep1 v
  let b2 := (wakeDoms v dies).foldl Bn.domUp (b1.stepTo 2)
  let f := checkerFails + b2.boot.health.checkerFails
  let w := wof (b2n (f == 0) * 2 ^ 19)
  let b3 := ((b2.wr 0x2C01 w).setRec 6 w).setRec 7 (wof (min f 255))
  if f = 0 then b3.stepTo 3 else ((b3.decided 6 0).countFail.cleared b3.boot.straps 1).bootRun v 5 5

/-- SLEEP is entered (R484, R486, R546): an open outcome ends as INTERRUPTED; the domains go off; the pantry and the always-on
logic stay. A latched wake event starts the wake sequence at once (R487). -/
def Bn.sleepIn (b : Bn) (v : Variant) (dies : List Die) (n : Nat) : Bn :=
  let latched := b.power.wakeLatched
  let c := ((b.decided 8 n).cleared b.boot.straps 2).clearWords [0x0C04]
  let d := c.mapPower (fun p => { p with dev := .sleep })
  if latched then (d.wakeRun v dies).bit 0x1000 16 true else d

/-- SLEEP_ENTRY (R484). -/
def execSleepEntry (u : BnId) (s : State) : Host.Outcome State Fault Refusal :=
  let b := s.bn u
  .next (if s.hasBn u = true ∧ b.entryDue false = true ∧ b.power.clkWait = false then
    let r := s.free 4
    r.1.mapBn u (fun b => b.sleepIn s.variant s.dies r.2)
  else s)

/-- The valid runs of the wake pattern after one more run (R382): a burst is odd, a gap even; 0.75-1.50 µs are 12 to 24 samples. -/
def burstsAfter (n : Nat) (active : Bool) (samples : Nat) : Nat :=
  let valid := decide (12 ≤ samples) && decide (samples ≤ 24)
  if valid = false then 0
  else if active then (if n % 2 = 0 then n + 1 else 1)
  else if n % 2 = 1 then n + 1
  else 0

/-- WAKE_PATTERN (R382, R485, R487): the eighth burst wakes a sleeping die, or is latched while an entry into SLEEP is under way. -/
def execWakePattern (u : BnId) (active : Bool) (samples : Nat) (s : State) : Host.Outcome State Fault Refusal :=
  let b := s.bn u
  let n := burstsAfter b.power.bursts active samples
  let entering : Bool := match b.power.entry with
    | some e => !e.doze
    | none => false
  .next (if s.hasBn u = false ∨ ¬ (b.power.dev = .sleep ∨ entering = true) then s
  else if n < 15 then s.mapBn u (fun b => b.mapPower (fun p => { p with bursts := n }))
  else if b.power.dev = .sleep then s.mapBn u (fun b => b.wakeRun s.variant s.dies)
  else s.mapBn u (fun b => b.mapPower (fun p => { p with bursts := 0, wakeLatched := true })))

/-! Clock-source failures. -/

/-- The galley as a reset leaves it (R468, R444): queues and replay reserve empty; marks that stood in queue 34 are lost, and
nothing waits for them. -/
def Bn.emptyGalley (b : Bn) : Bn :=
  let b1 := (if b.gal.scrub.isSome then b.wr 0x2C13 0 else b).flashClear.wrN 0x2C1D 0
  { b1 with
    marksOut := b1.marksIn, marksSent := b1.marksIn, ctl := []
    sheets := { b1.sheets with ctlIn := [], dreq := none, sent := [], firstSeq := none }
    power := { b1.power with after := b1.power.after.filter (fun p => p.2.isNone) } }

/-- Whether a failure of a source is a clock-source failure of the unit (R466): the PLL while it is locked, the XO while it is the
PLL reference or the CORE source. -/
def Bn.sourceUsed (b : Bn) (src : ClkSource) : Bool :=
  match src with
  | .pll => b.power.pllLock
  | .xo => b.power.xoOk && (b.power.pllRef == 1 || (b.power.dev == .boot && decide (3 ≤ b.boot.step) && !b.power.pllLock))

/-- Whether the copyholder's clock derives from the failed source (R463, R467). -/
def Bn.ctrlStops (b : Bn) (src : ClkSource) : Bool :=
  match src with
  | .pll => b.power.ctrlIn == 2
  | .xo => b.power.ctrlIn != 0

/-- A clock-source failure (R467, R200, R313): a die in MINIMAL or BOOT stays there, any other falls to READY. -/
def Bn.clockFail (b : Bn) (src : ClkSource) (sln2 : Bool) : Bn :=
  let dev := b.power.dev
  let b1 := (b.power.doms.map (·.1)).foldl Bn.domResume b
  let b2 := if dev = .ready ∨ dev = .run ∨ dev = .doze then b1.stopForme else b1
  let b3 := b2.mapPower (fun p => { p with
    clkWait := true, clkLossOut := true, pllLock := false, xoOk := p.xoOk && src != .xo, entry := none, wakeLatched := false, dozeX := none
    after := [] })
  let b4 := b3.mapHkc (fun h => { h with conv := none, exc := [] })
  let b5 := if b.ctrlStops src then { b4 with job := none, reqs := b4.reqs.filter (fun r => r.owner != .job) } else b4
  let b6 := (b5.mapArr (fun a => { a with probeRec := none, probeOk := false, probeBad := [] })).wrN 0x3C03 0
  (b6.wrN 0x1403 (if src = .xo then 2 ^ 18 else 0)).lanesFollow sln2

/-- CLOCK_SOURCE_FAILURE (R466, R467). -/
def execClockSourceFailure (u : BnId) (src : ClkSource) (s : State) : Host.Outcome State Fault Refusal :=
  let b := s.bn u
  .next (if s.hasBn u = true ∧ b.power.dev.crosses = true ∧ b.power.clkWait = false ∧ b.sourceUsed src = true then
    s.mapBn u (fun b => b.clockFail src (s.variant == .sln2))
  else s)

/-- The end of the wait after a clock-source failure (R468, R160, R523, R529). -/
def Bn.clockBack (b : Bn) (ms : Nat) (sln2 : Bool) : Bn :=
  let locked := b.power.dev != .boot || decide ((if b.boot.wakeSeq then 4 else 6) < b.boot.step)
  let b1 := b.mapPower (fun p => { p with clkWait := false, clkLossOut := false, xoOk := true, pllLock := locked })
  let b2 := b1.emptyGalley.mapTime (fun t => { t.unset 4 with t := 0 })
  let b3 := (b2.mapTherm ThermSt.emptied).hkcReset
  let b4 := ((b3.wr 0x1403 (setFld (b3.rd 0x1403) 15 0 ms)).bit 0x1000 15 true).bump 0x1402
  b4.lanesFollow sln2

/-- CLOCK_WAIT_END (R468). -/
def execClockWaitEnd (u : BnId) (ms : BitVec 16) (s : State) : Host.Outcome State Fault Refusal :=
  .next (if s.hasBn u = true ∧ (s.bn u).power.clkWait = true then
    s.mapBn u (fun b => b.clockBack ms.toNat (s.variant == .sln2))
  else s)

/-- CLOCK_WAIT_ADVANCE: while the PLL is lost the crossing counter advances by 5 (R467). -/
def execClockWaitAdvance (u : BnId) (s : State) : Host.Outcome State Fault Refusal :=
  let b := s.bn u
  .next (if s.hasBn u = true ∧ b.power.clkWait = true ∧ b.power.pllLock = false then
    s.mapBn u (fun b => b.mapTime (fun t => { t with
      counter := (t.counter + 5) % 2 ^ 48, prev := (t.counter + 4) % 2 ^ 48, xc := t.xc + 5 }))
  else s)

/-- XO_FAIL: an XO that stops while it is not in use (R466). -/
def execXoFail (u : BnId) (s : State) : Host.Outcome State Fault Refusal :=
  let b := s.bn u
  .next (if s.hasBn u = true ∧ b.power.xoOk = true ∧ b.sourceUsed .xo = false then
    s.mapBn u (fun b => ((b.mapPower (fun p => { p with xoOk := false })).bit 0x1400 11 true).bump 0x1407)
  else s)

/-! The pantry and the always-on timers. -/

/-- Whether the always-on logic has its supply. -/
def DevState.aon : DevState → Bool
  | .off => false
  | _ => true

/-- PANTRY_SCRUB: one codeword a millisecond (R491). -/
def execPantryScrub (u : BnId) (s : State) : Host.Outcome State Fault Refusal :=
  .next (if s.hasBn u = true ∧ (s.bn u).power.dev.aon = true then
    s.mapBn u (fun b =>
      let b1 := b.pantryRead s.variant b.pantry.scrubNext
      { b1 with pantry := { b1.pantry with scrubNext := (b.pantry.scrubNext + 1) % 2048 } })
  else s)

/-- The next word of the sweep (R489): the dies in turn, each die's retained words in pantry order. -/
def Bn.sweepWord (b : Bn) (dies : List Die) : Option (Die × Nat) :=
  match dies[b.pantry.sweepPos / fvRetained.length % dies.length]?, fvRetained[b.pantry.sweepPos % fvRetained.length]? with
  | some d, some off => some (d, off)
  | _, _ => none

/-- One read of the sweep (R489): in every sixteenth crossing; it waits while eight requests toward the die are outstanding. -/
def Bn.sweep (b : Bn) (dies : List Die) : Bn :=
  match b.sweepWord dies with
  | some (d, off) =>
    let mine := b.reqs.filter (fun r => r.die == d)
    if b.xc % 16 ≠ 0 ∨ mine.any (fun r => r.owner == .sweep) = true ∨ b.reqs.any (fun r => r.owner == .sweep && r.made == b.xc) = true ∨
        8 ≤ (mine.filter (fun r => r.sent.isSome)).length ∨ b.domOn (159 + d.val) = false then b
    else
      let b1 := b.ask d 0 off 0 .sweep
      { b1 with pantry := { b1.pantry with sweepPos := (b.pantry.sweepPos + 1) % (dies.length * fvRetained.length) } }
  | none => b

/-- PANTRY_SWEEP (R489). -/
def execPantrySweep (u : BnId) (s : State) : Host.Outcome State Fault Refusal :=
  let b := s.bn u
  .next (if s.hasBn u = true ∧ (b.power.dev = .ready ∨ b.power.dev = .run ∨ b.power.dev = .doze) ∧ b.power.clkWait = false then
    s.mapBn u (fun b => b.sweep s.dies)
  else s)

/-- SESSION_TIMEOUT (R440). -/
def execSessionTimeout (u : BnId) (s : State) : Host.Outcome State Fault Refusal :=
  .next (if s.hasBn u = true ∧ (s.bn u).sess.level ≠ .open then
    s.mapBn u (fun b => (b.mapSess (fun x => { x with level := .open, slot := 0 })).bit 0x0400 17 true)
  else s)

/-- The lockout of a level is over (R439): the failure count and the seconds left are 0. -/
def Bn.unlock (b : Bn) (lvl : KeyLevel) : Bn :=
  match lvl with
  | .operate =>
    ((b.mapSess (fun x => { x with lockA := false })).setPw 0x000D (setFld (b.pw 0x000D) 1 0 0)).setPw 0x000E (setFld (b.pw 0x000E) 6 0 0)
  | .service =>
    ((b.mapSess (fun x => { x with lockB := false })).setPw 0x000D (setFld (b.pw 0x000D) 3 2 0)).setPw 0x000E (setFld (b.pw 0x000E) 13 7 0)

/-- Whether a level is locked out. -/
def Session.locked (x : Session) : KeyLevel → Bool
  | .operate => x.lockA
  | .service => x.lockB

/-- LOCKOUT_END (R439). -/
def execLockoutEnd (u : BnId) (lvl : KeyLevel) (s : State) : Host.Outcome State Fault Refusal :=
  .next (if s.hasBn u = true ∧ (s.bn u).sess.locked lvl = true ∧ (s.bn u).power.dev.aon = true then
    s.mapBn u (fun b => b.unlock lvl)
  else s)

end Sys2Proof.Machine
end

