-- ==== Sys2Proof/Machine/Commands.lean ====
section
/-! DEFINITION. The command packets (R429, R432, R433, R437-R445, R162, R163, R176, R252, R255, R293, R302, R394, R449-R453, R459, R474,
R478, R512, R523, R552, R553): each packet row frames its packet (Machine/Packet.lean) and runs its effect. -/

namespace Sys2Proof.Machine

/-- A packet whose effect is on the unit alone: the unit after it, the status and the data of its reply. -/
def State.unitPacket (s : State) (u : BnId) (op : Nat) (tag : Tag) (ws : List Word) (f : Bn → Bn × Status × List Word) : State :=
  s.packet u op tag ws (fun s =>
    let r := f (s.bn u)
    s.setBn u (r.1.reply tag.toNat op r.2.1 r.2.2))

/-- Whether the opcodes that need a forme or an FV die are refused (R442). -/
def Bn.isMinimal (b : Bn) : Bool := b.power.dev == .minimal

/-! ## Screening -/

/-- PACKET_SCREEN (R429). -/
def execPacketScreen (u : BnId) (s : State) : Host.Outcome State Fault Refusal :=
  .next (if s.hasBn u = true ∧ (s.bn u).power.dev.takesPackets = true ∧ (s.bn u).power.clkWait = false then s.mapBn u Bn.screen else s)

/-- PACKET_TIMEOUT (R429). -/
def execPacketTimeout (u : BnId) (s : State) : Host.Outcome State Fault Refusal :=
  .next (if s.hasBn u = true ∧ (s.bn u).power.dev.takesPackets = true ∧ (s.bn u).power.clkWait = false then s.mapBn u Bn.pktTimeout else s)

/-! ## Sessions and keys -/

/-- NOP: no effect, no reply (R430, R441). -/
def execNop (u : BnId) (tag : Tag) (s : State) : Host.Outcome State Fault Refusal := .next (s.packet u 0x00 tag [] (fun s => s))

/-- ECHO (R441). -/
def execEcho (u : BnId) (tag : Tag) (ws : List Word) (s : State) : Host.Outcome State Fault Refusal :=
  .next (s.unitPacket u 0x01 tag ws (fun b => (b, .ok, ws)))

/-- The words of an OTP key slot without its flags (R248, R459). -/
def Slot.words (x : Slot) (u : BnId) (lvl : Fin 2) (i : Nat) (base : Nat) : List Word :=
  if x.programmed = false then (List.range 13).map (fun k => Config.otpWord u (base + k))
  else if i = 0 ∧ x.digest = [] then (idx 13).map (fun k => Config.deliveryDigest u lvl k)
  else x.digest

/-- The slots of a level, each with its number, its level and its first OTP word (R459). -/
def Session.slots (x : Session) (lvl : KeyLevel) : List (Slot × Nat) :=
  (match lvl with
  | .operate => x.slotsA
  | .service => x.slotsB).toList.zipIdx

/-- A level as the digest constants number it. -/
def levelIx : KeyLevel → Fin 2
  | .operate => 0
  | .service => 1

/-- The session level that a key opens (R437). -/
def keyOpens : KeyLevel → Level
  | .operate => .operate
  | .service => .service

/-- The first OTP word of a slot (R459). -/
def slotBase (lvl : KeyLevel) (i : Nat) : Nat := 104 * (levelIx lvl).val + 13 * i

/-- The words of slot i of a level, the flags of t0 as 0. -/
def slotWords (u : BnId) (lvl : KeyLevel) (i : Nat) (sl : Slot) : List Word :=
  let ws := sl.words u (levelIx lvl) i (slotBase lvl i)
  setFld (ws.getD 0 0) 19 16 0 :: ws.drop 1

/-- The 128 key bits of OPEN_SESSION (R438). -/
def keyBits128 (key : List Word) : Nat := (key.drop 1).foldl (fun a w => a * 2 ^ 20 + w.toNat) (fld (key.headD 0) 7 0)

/-- The programmed, unrevoked slot of a level that holds the digest of a key, the first if several (R438). -/
def Bn.keySlot (b : Bn) (lvl : KeyLevel) (key : List Word) : Option Nat :=
  let d := sealWords (sha256 (keyBits128 key) 128)
  ((b.sess.slots lvl).find? (fun p => p.1.programmed && !p.1.revoked && (slotWords b.unit lvl p.2 p.1 == d))).map (·.2)

/-- Where the failure count of a level stands in pantry word 000Dh (R439, R488). -/
def failLo (lvl : KeyLevel) : Nat := 2 * (levelIx lvl).val

/-- The failure count of a level (R439). -/
def Bn.setFail (b : Bn) (lvl : KeyLevel) (n : Nat) : Bn := b.setPw 0x000D (setFld (b.pw 0x000D) (failLo lvl + 1) (failLo lvl) n)

/-- A wrong key (R439): counted; the third failure starts the lockout of 64 s. -/
def Bn.wrongKey (b : Bn) (lvl : KeyLevel) : Bn :=
  let n := min (fld (b.pw 0x000D) (failLo lvl + 1) (failLo lvl) + 1) 3
  let b1 := b.setFail lvl n
  if n < 3 then b1
  else match lvl with
    | .operate => (b1.mapSess (fun x => { x with lockA := true })).setPw 0x000E (setFld (b1.pw 0x000E) 6 0 64)
    | .service => (b1.mapSess (fun x => { x with lockB := true })).setPw 0x000E (setFld (b1.pw 0x000E) 13 7 64)

/-- The session at a level, with the slot that matched. -/
def Bn.enterLevel (b : Bn) (lvl : KeyLevel) (slot : Nat) : Bn :=
  b.mapSess (fun x => { x with level := keyOpens lvl, slot := slot })

/-- The session back at OPEN (R440). -/
def Bn.closeSess (b : Bn) : Bn := b.mapSess (fun x => { x with level := .open, slot := 0 })

/-- A key offered for a level (R438, R439). -/
def Bn.tryKey (b : Bn) (lvl : KeyLevel) (key : List Word) : Bn × Status × List Word :=
  if b.sess.locked lvl then (b, .lockedOut, [])
  else
    match b.keySlot lvl key with
    | some i => ((b.setFail lvl 0).enterLevel lvl i, .ok, [wof (((levelIx lvl).val + 1) * 2 ^ 18 + i)])
    | none => (b.wrongKey lvl, .denied, [])

/-- OPEN_SESSION (R437-R440). -/
def execOpenSession (u : BnId) (tag : Tag) (d0 : Word) (key : List Word) (s : State) : Host.Outcome State Fault Refusal :=
  .next (s.unitPacket u 0x02 tag (d0 :: key) (fun b =>
    match fld d0 1 0 with
    | 0 => (b.closeSess, .ok, [0])
    | 1 => b.tryKey .operate key
    | 2 => b.tryKey .service key
    | _ => (b, .range, [])))

/-- CLOSE_SESSION (R440). -/
def execCloseSession (u : BnId) (tag : Tag) (s : State) : Host.Outcome State Fault Refusal :=
  .next (s.unitPacket u 0x03 tag [] (fun b => (b.closeSess, .ok, [])))

/-- Replace a slot. -/
def Session.putSlot (x : Session) (lvl : KeyLevel) (i : Fin 8) (sl : Slot) : Session :=
  match lvl with
  | .operate => { x with slotsA := x.slotsA.set i sl }
  | .service => { x with slotsB := x.slotsB.set i sl }

/-- A slot. -/
def Session.slotAt (x : Session) (lvl : KeyLevel) (i : Fin 8) : Slot :=
  match lvl with
  | .operate => x.slotsA[i]
  | .service => x.slotsB[i]

/-- d0 of KEY_SET (R441). -/
def keyD0 (revoke : Bool) (lvl : KeyLevel) (slot : Nat) : Word := wof (b2n revoke * 2 ^ 19 + (levelIx lvl).val * 2 ^ 8 + slot)

/-- KEY_SET: a digest into an unprogrammed slot (R441, R459). -/
def execKeySet (u : BnId) (tag : Tag) (lvl : KeyLevel) (slot : Fin 8) (digest : List Word) (s : State) :
    Host.Outcome State Fault Refusal :=
  .next (s.unitPacket u 0x22 tag (keyD0 false lvl slot.val :: digest) (fun b =>
    let x := b.sess.slotAt lvl slot
    if x.programmed then (b, .readOnly, [])
    else (b.mapSess (fun y => y.putSlot lvl slot ⟨true, x.revoked, setFld (digest.headD 0) 19 16 0 :: digest.drop 1⟩), .ok, [])))

/-- REVOKE: KEY_SET with REVOKE (R459). The last programmed, unrevoked slot of key B stays. -/
def execRevoke (u : BnId) (tag : Tag) (lvl : KeyLevel) (slot : Fin 8) (digest : List Word) (s : State) :
    Host.Outcome State Fault Refusal :=
  .next (s.unitPacket u 0x22 tag (keyD0 true lvl slot.val :: digest) (fun b =>
    let x := b.sess.slotAt lvl slot
    let good := (b.sess.slots .service).filter (fun p => p.1.programmed && !p.1.revoked)
    if x.programmed = false then (b, .range, [])
    else if lvl = .service ∧ x.revoked = false ∧ good.length = 1 then (b, .denied, [])
    else (b.mapSess (fun y => y.putSlot lvl slot { x with revoked := true }), .ok, [])))

/-- One OTP word (R441, R459): the key slots, the flags in their t0, and the rest as the part holds it. -/
def Bn.otpRd (b : Bn) (a : Nat) : Word :=
  let lvl : KeyLevel := if a < 104 then .operate else .service
  let i := a % 104 / 13
  if h : a < 208 then
    let sl := b.sess.slotAt lvl ⟨i, by omega⟩
    let w := (slotWords b.unit lvl i sl).getD (a % 104 % 13) 0
    if a % 104 % 13 = 0 then wof (w.toNat + b2n sl.revoked * 2 ^ 19 + b2n sl.programmed * 2 ^ 18) else w
  else Config.otpWord b.unit a

/-- OTP_READ (R441, R459). -/
def execOtpRead (u : BnId) (tag : Tag) (d0 d1 : Word) (s : State) : Host.Outcome State Fault Refusal :=
  .next (s.unitPacket u 0x24 tag [d0, d1] (fun b =>
    let n := fld d1 3 0
    if n = 0 then (b, .range, []) else (b, .ok, (List.range n).map (fun i => b.otpRd (fld d0 11 0 + i)))))

/-- PATCH_LOAD (R445). -/
def execPatchLoad (u : BnId) (tag : Tag) (entry : Fin 64) (ws : List Word) (s : State) : Host.Outcome State Fault Refusal :=
  .next (s.unitPacket u 0x23 tag (wof entry.val :: ws) (fun b =>
    if fld (ws.getD 9 0) 15 0 ≠ crc16 (ws.take 9) then (b, .check, [])
    else ({ b with patches := mins entry.val (ws.take 9) (mdel b.patches entry.val) }, .ok, [])))

/-- PATCH_CLEAR: PATCH_LOAD with CLEAR (R445). -/
def execPatchClear (u : BnId) (tag : Tag) (entry : Fin 64) (ws : List Word) (s : State) : Host.Outcome State Fault Refusal :=
  .next (s.unitPacket u 0x23 tag (wof (2 ^ 19 + entry.val) :: ws) (fun b =>
    ({ b with patches := mdel b.patches entry.val }, .ok, [])))

/-! ## READ, WRITE, STAGE -/

/-- READ of words of the unit itself (R432, R437). -/
def State.readWords (s : State) (u : BnId) (staged : Bool) (off : Nat) (acc : List Word) (kept : Bool) :
    Nat → State × Status × List Word
  | 0 => (s, if kept then .okRetained else .ok, acc)
  | k + 1 =>
    if 0x1FFFF < off then (s, .badAddress, acc)
    else
      let f := s.free 4
      let r := (s.bn u).readWord s.variant s.gradeH f.2 staged off
      let s1 := f.1.setBn u r.1
      match r.2.1 with
      | .ok => s1.readWords u staged (off + 1) (acc ++ [r.2.2]) kept k
      | .okRetained => s1.readWords u staged (off + 1) (acc ++ [r.2.2]) true k
      | st => (s1, st, acc)

/-- READ (R432, R433, R437). -/
def State.readPacket (s : State) (u : BnId) (tag : Tag) (d0 d1 : Word) : State :=
  let target := fld d0 19 17
  let off := fld d0 16 0
  let n := fld d1 3 0
  let done (st : Status) : State := s.mapBn u (fun b => b.reply tag.toNat 0x04 st [])
  if n = 0 then done .range
  else if target = 6 then
    let r := s.readWords u (wbit d1 19) off [] false n
    r.1.mapBn u (fun b => b.reply tag.toNat 0x04 r.2.1 r.2.2)
  else
    match targetDies s.dies target with
    | [d] =>
      if target = 7 then done .badAddress
      else if (s.bn u).sess.level = .open then done .denied
      else s.mapBn u (fun b => b.jobNext (.read tag.toNat d off n [] false))
    | _ => done .badAddress

/-- READ (R432). -/
def execRead (u : BnId) (tag : Tag) (d0 d1 : Word) (s : State) : Host.Outcome State Fault Refusal :=
  .next (s.packet u 0x04 tag [d0, d1] (fun s => s.readPacket u tag d0 d1))

/-- WRITE or STAGE of words of the unit itself (R432). -/
def State.writeWords (s : State) (u : BnId) (stg : Bool) (off done : Nat) : List Word → State × Status × Nat
  | [] => (s, .ok, done)
  | v :: t =>
    if 0x1FFFF < off then (s, .badAddress, done)
    else
      let f := s.draw 4
      let b := s.bn u
      let r := if stg then b.stageWord s.variant off v else b.writeWord s.variant f.2 off v
      let s1 := f.1.setBn u r.1
      if r.2.done then s1.writeWords u stg (off + 1) (done + 1) t else (s1, r.2, done)

/-- WRITE or STAGE (R24, R432, R433, R442, R454): `op` is its opcode. -/
def State.writePacket (s : State) (u : BnId) (stg : Bool) (op : Nat) (tag : Tag) (d0 : Word) (vals : List Word) : State :=
  let target := fld d0 19 17
  let off := fld d0 16 0
  let b := s.bn u
  let none_ (st : Status) : State := s.mapBn u (fun b => b.reply tag.toNat op st [0])
  if target = 6 then
    let r := s.writeWords u stg off 0 vals
    r.1.mapBn u (fun b => b.reply tag.toNat op r.2.1 [wof r.2.2])
  else
    let ds := targetDies s.dies target
    if ds.isEmpty then none_ .badAddress
    else if b.isMinimal then none_ .notActive
    else if stg = true ∧ b.stage.st = .armed then none_ .busy
    else s.mapBn u (fun b => b.jobNext (.write tag.toNat stg ds ds off vals 0 none false))

/-- WRITE (R432). -/
def execWrite (u : BnId) (tag : Tag) (d0 : Word) (vals : List Word) (s : State) : Host.Outcome State Fault Refusal :=
  .next (s.packet u 0x05 tag (d0 :: vals) (fun s => s.writePacket u false 0x05 tag d0 vals))

/-- STAGE (R447). -/
def execStage (u : BnId) (tag : Tag) (d0 : Word) (vals : List Word) (s : State) : Host.Outcome State Fault Refusal :=
  .next (s.packet u 0x06 tag (d0 :: vals) (fun s => s.writePacket u true 0x06 tag d0 vals))

/-! ## The staged bank and the forme -/

/-- PROOF (R449, R450). -/
def execProof (u : BnId) (tag : Tag) (d0 : Word) (s : State) : Host.Outcome State Fault Refusal :=
  .next (s.packet u 0x07 tag [d0] (fun s =>
    let r := s.proofOf u (fld d0 5 0)
    s.setBn u (r.1.reply tag.toNat 0x07 r.2.1 r.2.2)))

/-- IMPRESS (R451). -/
def execImpress (u : BnId) (tag : Tag) (d0 d1 d2 d3 : Word) (s : State) : Host.Outcome State Fault Refusal :=
  .next (s.unitPacket u 0x08 tag [d0, d1, d2, d3] (fun b =>
    let r := b.impressAsk (fld d0 5 0) (xcOf d1 d2 d3)
    (r.1, r.2, [])))

/-- DISCARD (R453). -/
def execDiscard (u : BnId) (tag : Tag) (s : State) : Host.Outcome State Fault Refusal :=
  .next (s.unitPacket u 0x09 tag [] (fun b =>
    let r := b.discard
    (r.1, r.2, [])))

/-- FORME_LOAD (R252-R254, R449, R454). -/
def Bn.formeLoad (b : Bn) (off : Nat) (ws : List Word) : Bn × Status × List Word :=
  if off = 0 ∧ b.stage.st = .armed ∧ b.isMinimal = false then (b, .busy, [wof b.loader.img.length])
  else
    let r := b.loadWords off ws
    let b1 := if r.2 = .ok ∧ b.stage.st = .proved then r.1.toStaging else r.1
    (b1, r.2, [wof b1.loader.img.length])

/-- FORME_LOAD (R252). -/
def execFormeLoad (u : BnId) (tag : Tag) (d0 : Word) (ws : List Word) (s : State) : Host.Outcome State Fault Refusal :=
  .next (s.unitPacket u 0x0A tag (d0 :: ws) (fun b => b.formeLoad d0.toNat ws))

/-- FORME_VERIFY (R255). -/
def execFormeVerify (u : BnId) (tag : Tag) (s : State) : Host.Outcome State Fault Refusal :=
  .next (s.unitPacket u 0x0B tag [] (fun b =>
    if b.isMinimal then (b, .denied, [])
    else
      let r := b.verify
      (r.1, r.2, if r.2 = .ok then [r.1.formeStatus] else [])))

/-! ## The galley -/

/-- QUEUE_FLUSH (R293, R442). -/
def Bn.flushAsk (b : Bn) (q n : Nat) : Bn × Status :=
  if b.isMinimal then (b, .denied)
  else if n < b.now + 64 ∨ b.now + 2 ^ 20 < n ∨ qReserved q = true then (b, .range)
  else (b.mapGal (fun g => { g with flushes := g.flushes ++ [(q, n)] }), .ok)

/-- QUEUE_FLUSH (R293). -/
def execQueueFlush (u : BnId) (tag : Tag) (d0 d1 d2 d3 : Word) (s : State) : Host.Outcome State Fault Refusal :=
  .next (s.unitPacket u 0x0C tag [d0, d1, d2, d3] (fun b =>
    let r := b.flushAsk (fld d0 5 0) (xcOf d1 d2 d3)
    (r.1, r.2, [])))

/-- SCRUB (R302, R304): the summary starts empty. -/
def Bn.scrubAsk (b : Bn) (first last rate : Nat) : Bn × Status :=
  if last < first ∨ 0x3FFFF < last ∨ rate = 0 ∨ 32 < rate then (b, .range)
  else if b.gal.scrub.isSome then (b, .busy)
  else (((b.mapGal (fun g => { g with scrub := some ⟨first, last, rate⟩ })).clearWords ((List.range 8).map (0x2C14 + ·))).wrN 0x2C13
    (2 ^ 19 + first), .ok)

/-- SCRUB (R302). -/
def execScrub (u : BnId) (tag : Tag) (d0 d1 d2 : Word) (s : State) : Host.Outcome State Fault Refusal :=
  .next (s.unitPacket u 0x0D tag [d0, d1, d2] (fun b =>
    let r := b.scrubAsk d0.toNat d1.toNat (fld d2 5 0)
    (r.1, r.2, [])))

/-- SCRUB_REPORT (R302, R441). -/
def execScrubReport (u : BnId) (tag : Tag) (s : State) : Host.Outcome State Fault Refusal :=
  .next (s.unitPacket u 0x0E tag [] (fun b => (b, .ok, (List.range 9).map (fun i => b.rd (0x2C13 + i)))))

/-- HK_URGENT (R512). -/
def Bn.hkUrgent (b : Bn) (e : Nat) : Bn × Status :=
  let p (n : Nat) : DomPower := (b.dom n).power
  if p 166 = .failed ∨ p 167 = .failed then (b, .failedDomain)
  else if p 166 ≠ .on ∨ p 167 ≠ .on then (b, .asleep)
  else
    let r := b.urgRequest 2 e
    (r.1, if r.2 then .ok else .busy)

/-- HK_URGENT (R512). -/
def execHkUrgent (u : BnId) (tag : Tag) (d0 : Word) (s : State) : Host.Outcome State Fault Refusal :=
  .next (s.unitPacket u 0x0F tag [d0] (fun b =>
    let r := b.hkUrgent (fld d0 5 0)
    (r.1, r.2, [])))

/-- The doubles of a queue as cell and half, from head to tail, with whether each ends an item; those visible now (R290). -/
def Bn.visible (b : Bn) (q : Nat) : List (Nat × Bool × Bool) :=
  let x := b.queue q
  ((x.cells.flatMap (fun c =>
    (if c.vis0 ≤ b.cycle then [(c.addr, false, c.end0)] else []) ++
    (if c.full = true ∧ c.vis1 ≤ b.cycle then [(c.addr, true, c.end1)] else [])))).drop (b2n x.headHalf)

/-- The first whole item of a list of doubles: the doubles up to an END. -/
def firstItem : List (Nat × Bool × Bool) → Option (List (Nat × Bool))
  | [] => none
  | (a, h, e) :: t => if e then some [(a, h)] else (firstItem t).map (fun r => (a, h) :: r)

/-- The words of some doubles of a queue, read by the service port (R284): the unit with the outcomes recorded, whether each could be
decoded, the words. -/
def Bn.serviceWords (b : Bn) (ds : List (Nat × Bool)) : Bn × Bool × List Word :=
  ds.foldl (fun (x : Bn × Bool × List Word) p =>
    let (o, d) := x.1.readHalf p.1 p.2
    (x.1.outcome o 1 p.1, x.2.1 && o != .uncorrectable && o != .addressFault, x.2.2 ++ [dhi d, dlo d])) (b, true, [])

/-- The head of a queue moves past some doubles. -/
def Bn.consumeN (b : Bn) (q : Nat) : Nat → Bn
  | 0 => b
  | k + 1 => (b.consume q).consumeN q k

/-- A service read of a queue (R293, R445): the doubles that the reply shows, how many it consumes, which words of them it
returns. -/
def Bn.serviceRead (b : Bn) (q : Nat) (ds : List (Nat × Bool)) (eat : Nat) (pick : List Word → List Word) : Bn × Status × List Word :=
  let (b1, ok, ws) := b.serviceWords ds
  let b2 := b1.consumeN q eat
  if ok = false then (b2, .check, [])
  else
    let x := b2.queue q
    let w := wof (b2n x.flushed * 2 ^ 19 + b2n (!ds.isEmpty) * 2 ^ 18 + min x.count 65535)
    (b2.setQueue q { x with flushed := false }, .ok, w :: pick ws)

/-- A discard that waits at a queue goes first (R290). -/
def Bn.settleQueue (b : Bn) (q : Nat) : Bn := if (b.queue q).skip then b.discardItem q b.cycle 17 else b

/-- STATS_START (R102, R263, R442, R445). -/
def Bn.statsStart (b : Bn) (n : Nat) : Bn × Status :=
  let id := (b.rd 0x4051).toNat
  if b.isMinimal = true ∨ b.loader.live = false ∨ ¬ (id = 0x102 ∨ id = 0x104 ∨ id = 0x108) then (b, .denied)
  else if n = 0 then (b, .range)
  else ({ (b.wrN 0x3800 n).flushQueue 33 with stats := { Stats.none with armed := true } }, .ok)

/-- STATS_START (R445). -/
def execStatsStart (u : BnId) (tag : Tag) (d0 : Word) (s : State) : Host.Outcome State Fault Refusal :=
  .next (s.unitPacket u 0x10 tag [d0] (fun b =>
    let r := b.statsStart (fld d0 15 0)
    (r.1, r.2, [])))

/-- STATS_READ (R104, R445): half of the head block; PART = 1 consumes it. -/
def Bn.statsRead (b : Bn) (part : Nat) : Bn × Status × List Word :=
  if b.isMinimal then (b, .denied, [])
  else
    let b1 := b.settleQueue 33
    let ds := (firstItem (b1.visible 33)).getD []
    b1.serviceRead 33 ds (part * ds.length) (fun ws => (ws.drop (8 * part)).take 8)

/-- STATS_READ (R445). -/
def execStatsRead (u : BnId) (tag : Tag) (d0 : Word) (s : State) : Host.Outcome State Fault Refusal :=
  .next (s.unitPacket u 0x11 tag [d0] (fun b => b.statsRead (fld d0 0 0)))

/-- TAP_SET (R105, R132, R442, R445). -/
def State.tapSet (s : State) (u : BnId) (tag : Tag) (d0 : Word) : State :=
  let b := s.bn u
  let k := fld d0 13 10
  let en := wbit d0 19
  let done (b : Bn) (st : Status) : State := s.setBn u (b.reply tag.toNat 0x12 st [])
  match b.isMinimal, targetDies s.dies (fld d0 16 14) with
  | true, _ => done b .denied
  | false, [d] =>
    if fld d0 16 14 = 7 then done b .badAddress
    else if b.holds = false then done (b.flushQueue (48 + k)) .notActive
    else
      let b1 := (b.flushQueue (48 + k)).bit 0x3802 k en
      s.setBn u ({ b1 with job := some (.tapSet tag.toNat) }.ask d 1 (0x1C10 + k) (wof (b2n en * 2 ^ 19 + fld d0 9 0)) .job)
  | false, _ => done b .badAddress

/-- TAP_SET (R445). -/
def execTapSet (u : BnId) (tag : Tag) (d0 : Word) (s : State) : Host.Outcome State Fault Refusal :=
  .next (s.packet u 0x12 tag [d0] (fun s => s.tapSet u tag d0))

/-- TAP_READ (R445): up to two whole items, as far as a reply carries them. -/
def Bn.tapRead (b : Bn) (k : Nat) : Bn × Status × List Word :=
  if b.isMinimal then (b, .denied, [])
  else
    let q := 48 + k
    let b1 := b.settleQueue q
    let v := b1.visible q
    let one := (firstItem v).getD []
    let two := (firstItem (v.drop one.length)).getD []
    let ds := if one.length + two.length ≤ 7 then one ++ two else one
    b1.serviceRead q ds ds.length (fun ws => ws.take 14)

/-- TAP_READ (R445). -/
def execTapRead (u : BnId) (tag : Tag) (d0 : Word) (s : State) : Host.Outcome State Fault Refusal :=
  .next (s.unitPacket u 0x13 tag [d0] (fun b => b.tapRead (fld d0 3 0)))

/-! ## Time -/

/-- TIME_STEP (R162). -/
def Bn.timeStepAsk (b : Bn) (c : Nat) (q0 q1 q2 q3 : Word) : Bn × Status :=
  if b.time.step ≠ 0 then (b, .stepUsed)
  else if b.time.holdover then (b, .busy)
  else if c < b.now + 64 ∨ b.now + 2 ^ 20 < c then (b, .range)
  else if quadOk q1 q2 q3 = false then (b, .range)
  else (b.mapTime (fun t => { t with step := 1, stepPend := some (c, quadTk q0 q1 q2 q3) }), .ok)

/-- TIME_STEP (R162). -/
def execTimeStep (u : BnId) (tag : Tag) (d0 d1 d2 d3 d4 d5 d6 : Word) (s : State) : Host.Outcome State Fault Refusal :=
  .next (s.unitPacket u 0x14 tag [d0, d1, d2, d3, d4, d5, d6] (fun b =>
    let r := b.timeStepAsk (xcOf d0 d1 d2) d3 d4 d5 d6
    (r.1, r.2, [])))

/-- TIME_RATE (R153, R163). -/
def Bn.timeRateAsk (b : Bn) (c : Nat) (r : Int) : Bn × Status :=
  if r < -5368709 ∨ 5368709 < r ∨ c < b.now + 4 ∨ b.now + 2 ^ 20 < c then (b, .range)
  else (b.mapTime (fun t => { t with ratePend := some (c, r) }), .ok)

/-- TIME_RATE (R163). -/
def execTimeRate (u : BnId) (tag : Tag) (d0 d1 d2 d3 d4 : Word) (s : State) : Host.Outcome State Fault Refusal :=
  .next (s.unitPacket u 0x15 tag [d0, d1, d2, d3, d4] (fun b =>
    let r := b.timeRateAsk (xcOf d0 d1 d2) (sx (fld d3 3 0 * 2 ^ 20 + d4.toNat) 24)
    (r.1, r.2, [])))

/-- TIME_READ (R176, R441). -/
def Bn.timeRead (b : Bn) : List Word :=
  xcWords b.now ++ quad (b.time.t / 2 ^ 20) ++ [wof b.time.t, (rateWords b.time.rate).2, (rateWords b.time.rate).1, b.viewTime 0x1800]

/-- TIME_READ (R176). -/
def execTimeRead (u : BnId) (tag : Tag) (s : State) : Host.Outcome State Fault Refusal :=
  .next (s.unitPacket u 0x16 tag [] (fun b => (b, .ok, b.timeRead)))

/-! ## Power and resets -/

/-- Whether DOZE or SLEEP is refused with BUSY (R478). -/
def Bn.entryBusy (b : Bn) : Bool :=
  let hold : Bool := match b.power.holdEnd with
    | some x => decide (b.xc ≤ x)
    | none => false
  b.stage.st == .armed || b.lease.join.code == 2 || b.lease.join.y.isSome || b.lease.ho.isSome || b.gal.scrub.isSome || hold ||
    b.power.entry.isSome

/-- DOZE or SLEEP accepted or refused (R442, R478). -/
def Bn.entryAccept (b : Bn) (doze : Bool) (tag op : Nat) : Bn :=
  if b.isMinimal then b.reply tag op .denied []
  else if b.entryBusy then b.reply tag op .busy []
  else (b.mapPower (fun p => { p with entry := some ⟨doze, none⟩, after := p.after ++ [(.entry, none)] })).replyW tag op .ok [] true

/-- SLEEP (R478). -/
def execSleep (u : BnId) (tag : Tag) (s : State) : Host.Outcome State Fault Refusal :=
  .next (s.packet u 0x17 tag [] (fun s => s.mapBn u (fun b => b.entryAccept false tag.toNat 0x17)))

/-- DOZE (R478). -/
def execDoze (u : BnId) (tag : Tag) (s : State) : Host.Outcome State Fault Refusal :=
  .next (s.packet u 0x18 tag [] (fun s => s.mapBn u (fun b => b.entryAccept true tag.toNat 0x18)))

/-- An OFF compositor or case switched on by WAKE: WOKEN is set (R474). -/
def Bn.wakeUp (b : Bn) (n : Nat) : Bn := if (b.dom n).power = .off then b.setDom n ⟨.on, true, false, 0, 0, 1⟩ else b

/-- WAKE (R206, R474, R475, R550): a compositor needs its case; the reply of a new attempt follows its end. -/
def Bn.wakeAsk (b : Bn) (tag n : Nat) : Bn :=
  let done (b : Bn) (st : Status) : Bn := b.reply tag 0x19 st []
  if 169 < n then done b .range
  else
    match (b.dom n).power with
    | .failed => { b.setDom n { b.dom n with waking := 2 } with job := some (.wake tag n) }
    | .off =>
      if 136 ≤ n then done b .ok
      else if b.isMinimal then done b .denied
      else if n < 128 ∧ (b.dom (128 + n / 16)).power = .failed then done b .failedDomain
      else done ((if n < 128 then b.wakeUp (128 + n / 16) else b).wakeUp n) .ok
    | _ => done b .ok

/-- WAKE (R474). -/
def execWake (u : BnId) (tag : Tag) (d0 : Word) (s : State) : Host.Outcome State Fault Refusal :=
  .next (s.packet u 0x19 tag [d0] (fun s => s.mapBn u (fun b => b.wakeAsk tag.toNat (fld d0 7 0))))

/-- d0 of RESET_BLOCK (R441). -/
def resetD0 (target blk : Nat) : Word := wof (target * 2 ^ 17 + blk)

/-- A reset of the die or a restart of a lane once the reply has left UP0 (R444). -/
def Bn.afterReply (b : Bn) (tag op : Nat) (a : AfterReply) : Bn :=
  (b.mapPower (fun p => { p with after := p.after ++ [(a, none)] })).replyW tag op .ok [] true

/-- RESET_BLOCK of a block of the unit itself (R444, R523). -/
def Bn.resetBlock (b : Bn) (sln2 : Bool) (tag blk : Nat) : Bn :=
  if blk = 0 then b.afterReply tag 0x1A .resetDie
  else if blk = 1 then b.hkcReset.reply tag 0x1A .ok []
  else if h : 0x10 ≤ blk ∧ blk ≤ 0x16 then
    if laneHere sln2 ⟨blk - 0x10, by omega⟩ then b.afterReply tag 0x1A (.lane ⟨blk - 0x10, by omega⟩) else b.reply tag 0x1A .range []
  else b.reply tag 0x1A .range []

/-- RESET_BLOCK of an FV die (R141, R444). -/
def State.resetFv (s : State) (u : BnId) (tag : Tag) (d : Die) : State :=
  let done (s : State) (st : Status) : State := s.mapBn u (fun b => b.reply tag.toNat 0x1A st [])
  if s.variant.hasFv d = false then done s .badAddress
  else if (s.bn u).holds = false then done s .notActive
  else if (s.fv d).powered = false then done s .timeout
  else done (s.mapFv d (fun f => f.reset false)) .ok

/-- RESET_BLOCK_FV (R444). -/
def execResetBlockFv (u : BnId) (tag : Tag) (d : Die) (s : State) : Host.Outcome State Fault Refusal :=
  .next (s.packet u 0x1A tag [resetD0 d.val 0] (fun s => s.resetFv u tag d))

/-- RESET_BLOCK_BN: target 6 with any block, or target 7 (R444). -/
def execResetBlockBn (u : BnId) (tag : Tag) (toSeven : Bool) (blk : BitVec 8) (s : State) : Host.Outcome State Fault Refusal :=
  .next (s.packet u 0x1A tag [resetD0 (if toSeven then 7 else 6) blk.toNat] (fun s =>
    s.mapBn u (fun b => if toSeven then b.reply tag.toNat 0x1A .range [] else b.resetBlock (s.variant == .sln2) tag.toNat blk.toNat)))

/-- RESET_BLOCK_HKC (R523). -/
def execResetBlockHkc (u : BnId) (tag : Tag) (s : State) : Host.Outcome State Fault Refusal :=
  .next (s.packet u 0x1A tag [resetD0 6 1] (fun s => s.mapBn u (fun b => b.resetBlock (s.variant == .sln2) tag.toNat 1)))

/-- LANE_RESTART (R444). -/
def execLaneRestart (u : BnId) (tag : Tag) (l : Lane) (s : State) : Host.Outcome State Fault Refusal :=
  .next (s.packet u 0x1A tag [resetD0 6 (0x10 + l.val)] (fun s =>
    s.mapBn u (fun b => b.resetBlock (s.variant == .sln2) tag.toNat (0x10 + l.val))))

/-- SELFTEST_CHECKER: the vectors of R305; code 11b is reserved (R444). -/
def execSelftestChecker (u : BnId) (tag : Tag) (reserved : Bool) (s : State) : Host.Outcome State Fault Refusal :=
  .next (s.unitPacket u 0x1B tag [if reserved then 3 else 0] (fun b =>
    let f := checkerFails + b.boot.health.checkerFails
    if reserved then (b, .range, []) else (b, .ok, [wof (b2n (f == 0) * 2 ^ 19 + min f 255)])))

/-- SELFTEST_PROBE: the next 16 rounds are those of the next 16 crossings (R200, R444). -/
def execSelftestProbe (u : BnId) (tag : Tag) (s : State) : Host.Outcome State Fault Refusal :=
  .next (s.packet u 0x1B tag [1] (fun s =>
    s.mapBn u (fun b => { b with job := some (.probe tag.toNat (b.rd 0x3C04).toNat (b.xc + 17)) })))

/-- SELFTEST_GALLEY (R306, R444). -/
def Bn.galleyTest (b : Bn) : Bn × Status × List Word :=
  if b.power.dev ≠ .ready ∨ b.acq.phase ≠ .idle then (b, .denied, [])
  else
    let h := b.boot.health
    let corr := min h.memCorr 4095
    let b1 := b.emptyGalley
    (b1.wr 0x2C01 (setFld (b1.rd 0x2C01) 11 0 corr), .ok, [wof (b2n h.memOk * 2 ^ 19 + corr)])

/-- SELFTEST_GALLEY (R444). -/
def execSelftestGalley (u : BnId) (tag : Tag) (s : State) : Host.Outcome State Fault Refusal :=
  .next (s.unitPacket u 0x1B tag [2] Bn.galleyTest)

/-- BOOT_INFO: words r0-r14 of the j-th newest record (R553). -/
def execBootInfo (u : BnId) (tag : Tag) (d0 : Word) (s : State) : Host.Outcome State Fault Refusal :=
  .next (s.unitPacket u 0x1C tag [d0] (fun b =>
    let base := 0x0200 + 32 * ((fld (b.pw 4) 2 0 + 8 - fld d0 2 0) % 8)
    (b, .ok, (List.range 15).map (fun i => b.pw (base + i)))))

/-- BOOT_CLEAR (R552). -/
def execBootClear (u : BnId) (tag : Tag) (s : State) : Host.Outcome State Fault Refusal :=
  .next (s.unitPacket u 0x1D tag [] (fun b => (b.setPw 2 0, .ok, [])))

/-! ## Roles and the transfer set -/

/-- LEASE_INFO (R441). -/
def execLeaseInfo (u : BnId) (tag : Tag) (d0 : Word) (s : State) : Host.Outcome State Fault Refusal :=
  .next (s.unitPacket u 0x1E tag [d0] (fun b =>
    let offs := if wbit d0 0 then (List.range 4).map (0x200F + ·) else (List.range 15).map (0x2000 + ·)
    (b, .ok, offs.map (b.viewLease (s.variant == .sln2)))))

/-- ROLE_REQUEST (R394, R442). -/
def Bn.roleRequest (b : Bn) (sln2 : Bool) (code : Nat) : Bn × Status :=
  if b.isMinimal = true ∨ sln2 = true then (b, .denied)
  else if 2 ≤ code then (b, .range)
  else if code = 0 then
    if b.lease.role = .cold then
      (b.mapLease (fun l => { l with join := { l.join with wanted := true, askAt := none } }), .ok)
    else (b, .denied)
  else if b.lease.role = .active then ((b.mapLease (fun l => { l with released := true })).roleNext .quiet, .ok)
  else if b.lease.role = .shadow then (b.roleNext .cold, .ok)
  else (b, .denied)

/-- ENTER: ROLE_REQUEST with this code, 0 for ENTER (R394). -/
def execEnter (u : BnId) (tag : Tag) (code : BitVec 8) (s : State) : Host.Outcome State Fault Refusal :=
  .next (s.unitPacket u 0x1F tag [wof code.toNat] (fun b =>
    let r := b.roleRequest (s.variant == .sln2) code.toNat
    (r.1, r.2, [])))

/-- LEAVE: ROLE_REQUEST with code 1 (R394). -/
def execLeave (u : BnId) (tag : Tag) (s : State) : Host.Outcome State Fault Refusal :=
  .next (s.unitPacket u 0x1F tag [1] (fun b =>
    let r := b.roleRequest (s.variant == .sln2) 1
    (r.1, r.2, [])))

/-- Whether the transfer set may be moved (R442, R443). -/
def Bn.setOpen (b : Bn) : Bool :=
  !b.isMinimal && b.acq.phase == .idle && b.loader.live && b.lease.join.code != 2 && b.lease.join.y.isNone

/-- STATE_SAVE (R417, R443). -/
def Bn.stateSave (b : Bn) (i : Nat) : Bn × Status × List Word :=
  if b.setOpen = false then (b, .denied, [])
  else
    let all := b.transferSet
    if all.length ≤ i then (b, .range, [])
    else (b, .ok, wof all.length :: ((all.drop i).take 7).flatMap (fun d => [dhi d, dlo d]))

/-- STATE_SAVE (R443). -/
def execStateSave (u : BnId) (tag : Tag) (d0 : Word) (s : State) : Host.Outcome State Fault Refusal :=
  .next (s.unitPacket u 0x20 tag [d0] (fun b => b.stateSave d0.toNat))

/-- The compositors of the live use mask take the doubles of a restore so far (R443). -/
def Bn.restoreComps (b : Bn) (ds : List Dbl) : Bn :=
  b.useMask.zipIdx.foldl (fun b p =>
    let own := (b.comp p.1).doubles
    b.setComp p.1 ((b.comp p.1).ofDoubles (fun i => (ds[66 + 22 * p.2 + i]?).getD (own.getD i 0)))) b

/-- Doubles of a restore at the next expected index (R443): RANGE starts it again, or keeps it, as the rule says; the last double
writes the queues and sets RESTORE_ARMED. -/
def Bn.restoreStep (b : Bn) (ds : List Dbl) : Bn × Status × List Word :=
  let all := b.saved ++ ds
  let n := b.useMask.length
  let size := (dhi (all.getD 0 0)).toNat
  let d (i : Nat) : Dbl := all.getD i 0
  if size < 66 + 22 * n ∨ size < all.length then (b, .range, [])
  else if 66 ≤ all.length ∧ size ≠ 66 + 22 * n + heldOf d then ({ b with saved := [] }, .range, [])
  else
    let b0 := if b.saved = [] then b.mapStage (fun g => { g with restoreArmed := false }) else b
    if all.length = size then
      ({ b0.writeSet d with saved := [] }.mapStage (fun g => { g with restoreArmed := true }), .ok, [0])
    else ({ b0.restoreComps all with saved := all }, .ok, [wof all.length])

/-- STATE_RESTORE (R443). -/
def Bn.stateRestore (b : Bn) (i : Nat) (ds : List Dbl) : Bn × Status × List Word :=
  if b.setOpen = false then (b, .denied, [])
  else if i ≠ b.saved.length then (b, .range, [])
  else b.restoreStep ds

/-- STATE_RESTORE (R443). -/
def execStateRestore (u : BnId) (tag : Tag) (d0 : Word) (ws : List Word) (s : State) : Host.Outcome State Fault Refusal :=
  .next (s.unitPacket u 0x21 tag (d0 :: ws) (fun b => b.stateRestore d0.toNat (toDoubles ws)))

end Sys2Proof.Machine
end

