-- ==== Sys2Proof/Machine/CompIsa.lean ====
section
/-! DEFINITION. The compositor instructions (R221-R238): one meaning for each. -/

namespace Sys2Proof.Machine

/-- NOP and the reserved opcodes: the issue cycle alone (R214, R221). -/
def execNopInstruction (u : BnId) (n : CompId) (c : Cyc) (op : BitVec 6) (f : IFields) (s : State) :
    Host.Outcome State Fault Refusal :=
  let o := op.toNat
  if o = 0 ∨ (0x2D ≤ o ∧ o < 0x30) ∨ 0x39 ≤ o then .next (s.instr u n c o f (fun b _ => (b, []))) else .next s

/-- SHL of a word; a count of 20 to 31 gives 0 (R223). -/
def shlW (a : Word) (n : Nat) : Word := wof (a.toNat * 2 ^ n)

/-- SHR of a word (R223). -/
def shrW (a : Word) (n : Nat) : Word := wof (a.toNat / 2 ^ n)

/-- SRA of a word (R223). -/
def sraW (a : Word) (n : Nat) : Word := wrap20 (a.toInt.fdiv (2 ^ n))

/-- The width of a field: IMM[4:0] + 1, at most 20 (R224). -/
def fieldW (w4 : Nat) : Nat := min (w4 + 1) 20

/-- EXT: the field zero-extended; source bits above 19 read as 0 (R224). -/
def extU (a : Word) (lo w4 : Nat) : Word := wof (a.toNat / 2 ^ lo % 2 ^ fieldW w4)

/-- EXTS: source bits above 19 read as the sign, and the field is sign-extended (R224). -/
def extS (a : Word) (lo w4 : Nat) : Word :=
  wrap20 (sx (ofInt (a.toInt.fdiv (2 ^ lo)) 20) (fieldW w4))

/-- INS: the field of B replaced from A (R224). -/
def insF (a b : Word) (lo w4 : Nat) : Word :=
  let mask := wof ((2 ^ fieldW w4 - 1) * 2 ^ lo)
  (b &&& ~~~ mask) ||| (wof (a.toNat * 2 ^ lo) &&& mask)

/-- The leading zeros of the low `n` bits of a word (R225). -/
def clz20 (a : Word) : Nat → Nat
  | 0 => 0
  | n + 1 => if wbit a n then 0 else clz20 a n + 1

/-- The conditions of CMP and CMPI (R226). -/
def cmpCond (code : Nat) (a b : Word) : Bool :=
  match code with
  | 0 => a == b
  | 1 => a != b
  | 2 => decide (a.toInt < b.toInt)
  | 3 => decide (a.toInt ≤ b.toInt)
  | 4 => decide (b.toInt < a.toInt)
  | 5 => decide (b.toInt ≤ a.toInt)
  | 6 => decide (a.toNat < b.toNat)
  | _ => decide (b.toNat ≤ a.toNat)

/-- The combine modes of CMP and CMPI; the reserved mode acts as SET (R226). -/
def cmpMode (mode : Nat) (old new : Bool) : Bool :=
  match mode with
  | 1 => old && new
  | 2 => old || new
  | _ => new

/-- The result of RDA: a shifted accumulator, clamped (R229). A count of 48 or more gives the sign, or 0 with rounding. -/
def rdaVal (v : Int) (sh : Nat) (rnd : Bool) : Word :=
  if 48 ≤ sh then (if rnd then 0 else if v < 0 then wrap20 (-1) else 0) else sat20 (shrR v sh rnd)

/-- The interpolation of LUTI (R231). -/
def lutiVal (t0 t1 : Int) (f k : Nat) : Word :=
  let h : Int := if k = 0 then 0 else 2 ^ (k - 1)
  sat20 (t0 + ((t1 - t0) * f + h).fdiv (2 ^ k))

/-- The reciprocal seed (R232). -/
def recipSeed (a : Word) : Word :=
  let mj := 2 ^ 18 + fld a 17 12 * 2 ^ 12 + 2 ^ 11
  wof (min 524287 ((2 ^ 37 + mj / 2) / mj))

/-- One refinement step (R233). -/
def rstepVal (m y : Int) : Word := sat20 ((y * (2 ^ 38 - m * y) + 2 ^ 36).fdiv (2 ^ 37))

/-- The value of the code word of JPUT: the low n bits of gA:gB, n at most 32 (R237). -/
def codeWord (a b : Word) (n : Nat) : Nat × Nat :=
  let l := min n 32
  (l, (a.toNat * 2 ^ 20 + b.toNat) % 2 ^ l)

/-- ADD (R221): wrapping sum. -/
def execAdd (u : BnId) (n : CompId) (c : Cyc) (f : IFields) (s : State) : Host.Outcome State Fault Refusal :=
  .next (s.instr u n c 0x01 f (fun b k => (b, one f (wrap20 (k.ga f + k.gb f)))))

/-- SUB (R221): wrapping difference. -/
def execSub (u : BnId) (n : CompId) (c : Cyc) (f : IFields) (s : State) : Host.Outcome State Fault Refusal :=
  .next (s.instr u n c 0x02 f (fun b k => (b, one f (wrap20 (k.ga f - k.gb f)))))

/-- ADDS (R221): saturating sum. -/
def execAdds (u : BnId) (n : CompId) (c : Cyc) (f : IFields) (s : State) : Host.Outcome State Fault Refusal :=
  .next (s.instr u n c 0x03 f (fun b k => (b, one f (sat20 (k.ga f + k.gb f)))))

/-- SUBS (R221): saturating difference. -/
def execSubs (u : BnId) (n : CompId) (c : Cyc) (f : IFields) (s : State) : Host.Outcome State Fault Refusal :=
  .next (s.instr u n c 0x04 f (fun b k => (b, one f (sat20 (k.ga f - k.gb f)))))

/-- ADDI (R221): wrapping sum with the signed immediate. -/
def execAddi (u : BnId) (n : CompId) (c : Cyc) (f : IFields) (s : State) : Host.Outcome State Fault Refusal :=
  .next (s.instr u n c 0x05 f (fun b k => (b, one f (wrap20 (k.ga f + f.simm)))))

/-- ADDIS (R221): saturating sum with the signed immediate. -/
def execAddis (u : BnId) (n : CompId) (c : Cyc) (f : IFields) (s : State) : Host.Outcome State Fault Refusal :=
  .next (s.instr u n c 0x06 f (fun b k => (b, one f (sat20 (k.ga f + f.simm)))))

/-- LDI (R213, R221): the 20-bit value in [19:0]. -/
def execLdi (u : BnId) (n : CompId) (c : Cyc) (f : IFields) (s : State) : Host.Outcome State Fault Refusal :=
  .next (s.instr u n c 0x07 f (fun b _ => (b, one f (wof (bitsOf f.b.toNat 3 0 * 2 ^ 16 + f.imm.toNat)))))

/-- AND (R221). -/
def execAnd (u : BnId) (n : CompId) (c : Cyc) (f : IFields) (s : State) : Host.Outcome State Fault Refusal :=
  .next (s.instr u n c 0x08 f (fun b k => (b, one f (k.wa f &&& k.wb f))))

/-- OR (R221). -/
def execOr (u : BnId) (n : CompId) (c : Cyc) (f : IFields) (s : State) : Host.Outcome State Fault Refusal :=
  .next (s.instr u n c 0x09 f (fun b k => (b, one f (k.wa f ||| k.wb f))))

/-- XOR (R221). -/
def execXor (u : BnId) (n : CompId) (c : Cyc) (f : IFields) (s : State) : Host.Outcome State Fault Refusal :=
  .next (s.instr u n c 0x0A f (fun b k => (b, one f (k.wa f ^^^ k.wb f))))

/-- ANDI (R221): with the zero-extended immediate. -/
def execAndi (u : BnId) (n : CompId) (c : Cyc) (f : IFields) (s : State) : Host.Outcome State Fault Refusal :=
  .next (s.instr u n c 0x0B f (fun b k => (b, one f (k.wa f &&& wof f.imm.toNat))))

/-- ORI (R221). -/
def execOri (u : BnId) (n : CompId) (c : Cyc) (f : IFields) (s : State) : Host.Outcome State Fault Refusal :=
  .next (s.instr u n c 0x0C f (fun b k => (b, one f (k.wa f ||| wof f.imm.toNat))))

/-- XORI (R221). -/
def execXori (u : BnId) (n : CompId) (c : Cyc) (f : IFields) (s : State) : Host.Outcome State Fault Refusal :=
  .next (s.instr u n c 0x0D f (fun b k => (b, one f (k.wa f ^^^ wof f.imm.toNat))))

/-- MIN (R221): signed. -/
def execMin (u : BnId) (n : CompId) (c : Cyc) (f : IFields) (s : State) : Host.Outcome State Fault Refusal :=
  .next (s.instr u n c 0x0E f (fun b k => (b, one f (if k.ga f ≤ k.gb f then k.wa f else k.wb f))))

/-- MAX (R221): signed. -/
def execMax (u : BnId) (n : CompId) (c : Cyc) (f : IFields) (s : State) : Host.Outcome State Fault Refusal :=
  .next (s.instr u n c 0x0F f (fun b k => (b, one f (if k.ga f ≤ k.gb f then k.wb f else k.wa f))))

/-- ABS (R221): saturating. -/
def execAbs (u : BnId) (n : CompId) (c : Cyc) (f : IFields) (s : State) : Host.Outcome State Fault Refusal :=
  .next (s.instr u n c 0x10 f (fun b k => (b, one f (sat20 (k.ga f).natAbs))))

/-- NEGS (R221): saturating. -/
def execNegs (u : BnId) (n : CompId) (c : Cyc) (f : IFields) (s : State) : Host.Outcome State Fault Refusal :=
  .next (s.instr u n c 0x11 f (fun b k => (b, one f (sat20 (-(k.ga f))))))

/-- SHL (R223). -/
def execShl (u : BnId) (n : CompId) (c : Cyc) (f : IFields) (s : State) : Host.Outcome State Fault Refusal :=
  .next (s.instr u n c 0x12 f (fun b k => (b, one f (shlW (k.wa f) (fld (k.wb f) 4 0)))))

/-- SHR (R223). -/
def execShr (u : BnId) (n : CompId) (c : Cyc) (f : IFields) (s : State) : Host.Outcome State Fault Refusal :=
  .next (s.instr u n c 0x13 f (fun b k => (b, one f (shrW (k.wa f) (fld (k.wb f) 4 0)))))

/-- SRA (R223). -/
def execSra (u : BnId) (n : CompId) (c : Cyc) (f : IFields) (s : State) : Host.Outcome State Fault Refusal :=
  .next (s.instr u n c 0x14 f (fun b k => (b, one f (sraW (k.wa f) (fld (k.wb f) 4 0)))))

/-- SHLI (R221, R223). -/
def execShli (u : BnId) (n : CompId) (c : Cyc) (f : IFields) (s : State) : Host.Outcome State Fault Refusal :=
  .next (s.instr u n c 0x15 f (fun b k => (b, one f (shlW (k.wa f) (f.im 4 0)))))

/-- SHRI (R221, R223). -/
def execShri (u : BnId) (n : CompId) (c : Cyc) (f : IFields) (s : State) : Host.Outcome State Fault Refusal :=
  .next (s.instr u n c 0x16 f (fun b k => (b, one f (shrW (k.wa f) (f.im 4 0)))))

/-- SRAI (R221, R223). -/
def execSrai (u : BnId) (n : CompId) (c : Cyc) (f : IFields) (s : State) : Host.Outcome State Fault Refusal :=
  .next (s.instr u n c 0x17 f (fun b k => (b, one f (sraW (k.wa f) (f.im 4 0)))))

/-- EXT (R224). -/
def execExt (u : BnId) (n : CompId) (c : Cyc) (f : IFields) (s : State) : Host.Outcome State Fault Refusal :=
  .next (s.instr u n c 0x18 f (fun b k => (b, one f (extU (k.wa f) (f.im 9 5) (f.im 4 0)))))

/-- EXTS (R224). -/
def execExts (u : BnId) (n : CompId) (c : Cyc) (f : IFields) (s : State) : Host.Outcome State Fault Refusal :=
  .next (s.instr u n c 0x19 f (fun b k => (b, one f (extS (k.wa f) (f.im 9 5) (f.im 4 0)))))

/-- INS (R224). -/
def execIns (u : BnId) (n : CompId) (c : Cyc) (f : IFields) (s : State) : Host.Outcome State Fault Refusal :=
  .next (s.instr u n c 0x1A f (fun b k => (b, one f (insF (k.wa f) (k.wb f) (f.im 9 5) (f.im 4 0)))))

/-- CLZ (R225). -/
def execClz (u : BnId) (n : CompId) (c : Cyc) (f : IFields) (s : State) : Host.Outcome State Fault Refusal :=
  .next (s.instr u n c 0x1B f (fun b k => (b, one f (wof (clz20 (k.wa f) 20)))))

/-- CMP (R226). -/
def execCmp (u : BnId) (n : CompId) (c : Cyc) (f : IFields) (s : State) : Host.Outcome State Fault Refusal :=
  .next (s.instr u n c 0x1C f (fun b k => (b, [(1, .pred (bitsOf f.d.toNat 1 0) (cmpMode (f.im 4 3) (k.pr (bitsOf f.d.toNat 1 0))
    (cmpCond (f.im 2 0) (k.wa f) (k.wb f))))])))

/-- CMPI (R226): the condition in B[20:18], the mode in B[17:16]. -/
def execCmpi (u : BnId) (n : CompId) (c : Cyc) (f : IFields) (s : State) : Host.Outcome State Fault Refusal :=
  .next (s.instr u n c 0x1D f (fun b k => (b, [(1, .pred (bitsOf f.d.toNat 1 0) (cmpMode (bitsOf f.b.toNat 1 0) (k.pr (bitsOf f.d.toNat 1 0))
    (cmpCond (bitsOf f.b.toNat 4 2) (k.wa f) (wrap20 f.simm))))])))

/-- SEL (R227). -/
def execSel (u : BnId) (n : CompId) (c : Cyc) (f : IFields) (s : State) : Host.Outcome State Fault Refusal :=
  .next (s.instr u n c 0x1E f (fun b k => (b, one f (if k.pr (f.im 1 0) then k.wa f else k.wb f))))

/-- PSET (R227). -/
def execPset (u : BnId) (n : CompId) (c : Cyc) (f : IFields) (s : State) : Host.Outcome State Fault Refusal :=
  .next (s.instr u n c 0x1F f (fun b _ => (b, [(1, .preds (f.im 7 4) (f.im 3 0))])))

/-- MULA (R221, R228). -/
def execMula (u : BnId) (n : CompId) (c : Cyc) (f : IFields) (s : State) : Host.Outcome State Fault Refusal :=
  .next (s.instr u n c 0x20 f (fun b k => (b, [(3, .accSet (f.d.toNat % 2 == 1) (wrap48 (k.ga f * k.gb f)))])))

/-- MAC (R221, R228). -/
def execMac (u : BnId) (n : CompId) (c : Cyc) (f : IFields) (s : State) : Host.Outcome State Fault Refusal :=
  .next (s.instr u n c 0x21 f (fun b k => (b, [(3, .accAdd (f.d.toNat % 2 == 1) (k.ga f * k.gb f) false)])))

/-- MACS (R221, R228). -/
def execMacs (u : BnId) (n : CompId) (c : Cyc) (f : IFields) (s : State) : Host.Outcome State Fault Refusal :=
  .next (s.instr u n c 0x22 f (fun b k => (b, [(3, .accAdd (f.d.toNat % 2 == 1) (k.ga f * k.gb f) true)])))

/-- MSU (R221, R228). -/
def execMsu (u : BnId) (n : CompId) (c : Cyc) (f : IFields) (s : State) : Host.Outcome State Fault Refusal :=
  .next (s.instr u n c 0x23 f (fun b k => (b, [(3, .accAdd (f.d.toNat % 2 == 1) (-(k.ga f * k.gb f)) false)])))

/-- MSUS (R221, R228). -/
def execMsus (u : BnId) (n : CompId) (c : Cyc) (f : IFields) (s : State) : Host.Outcome State Fault Refusal :=
  .next (s.instr u n c 0x24 f (fun b k => (b, [(3, .accAdd (f.d.toNat % 2 == 1) (-(k.ga f * k.gb f)) true)])))

/-- MACI (R221, R228). -/
def execMaci (u : BnId) (n : CompId) (c : Cyc) (f : IFields) (s : State) : Host.Outcome State Fault Refusal :=
  .next (s.instr u n c 0x25 f (fun b k => (b, [(3, .accAdd (f.d.toNat % 2 == 1) (k.ga f * f.simm) false)])))

/-- RDA (R229). -/
def execRda (u : BnId) (n : CompId) (c : Cyc) (f : IFields) (s : State) : Host.Outcome State Fault Refusal :=
  .next (s.instr u n c 0x26 f (fun b k => (b, [(2, .reg f.d.toNat (rdaVal (k.acc (f.imm.toNat.testBit 7)) (f.im 5 0) (f.imm.toNat.testBit 6)))])))

/-- WRA (R229). -/
def execWra (u : BnId) (n : CompId) (c : Cyc) (f : IFields) (s : State) : Host.Outcome State Fault Refusal :=
  .next (s.instr u n c 0x27 f (fun b k => (b, [(1, .accSet (f.d.toNat % 2 == 1) (wrap48 (k.ga f * 2 ^ 20 + (k.wb f).toNat)))])))

/-- MUL (R221, R229). -/
def execMul (u : BnId) (n : CompId) (c : Cyc) (f : IFields) (s : State) : Host.Outcome State Fault Refusal :=
  .next (s.instr u n c 0x28 f (fun b k => (b, [(3, .reg f.d.toNat (sat20 (shrR (k.ga f * k.gb f) (f.im 5 0) (f.imm.toNat.testBit 6))))])))

/-- TLD (R230). -/
def execTld (u : BnId) (n : CompId) (c : Cyc) (f : IFields) (s : State) : Host.Outcome State Fault Refusal :=
  .next (s.instr u n c 0x29 f (fun b k => 
    let r := b.tread n.val (fld (k.wa f) 10 0 + f.im 10 0)
    (r.1, [(3, .reg f.d.toNat r.2)])))

/-- LUTI (R231). -/
def execLuti (u : BnId) (n : CompId) (c : Cyc) (f : IFields) (s : State) : Host.Outcome State Fault Refusal :=
  .next (s.instr u n c 0x2A f (fun b k => 
    let u0 := (k.wa f).toNat
    let x := if f.b.toNat % 2 = 1 then (u0 + 2 ^ 19) % 2 ^ 20 else u0
    let sh := f.im 15 11
    let i := x / 2 ^ sh
    let r0 := b.tread n.val (f.im 10 0 + i)
    let r1 := r0.1.tread n.val (f.im 10 0 + i + 1)
    (r1.1, [(4, .reg f.d.toNat (lutiVal r0.2.toInt r1.2.toInt (x - i * 2 ^ sh) sh))])))

/-- RECIP (R232). -/
def execRecip (u : BnId) (n : CompId) (c : Cyc) (f : IFields) (s : State) : Host.Outcome State Fault Refusal :=
  .next (s.instr u n c 0x2B f (fun b k => (b, [(3, .reg f.d.toNat (recipSeed (k.wa f)))])))

/-- RSTEP (R233). -/
def execRstep (u : BnId) (n : CompId) (c : Cyc) (f : IFields) (s : State) : Host.Outcome State Fault Refusal :=
  .next (s.instr u n c 0x2C f (fun b k => (b, [(3, .reg f.d.toNat (rstepVal (k.ga f) (k.gb f)))])))

/-- XSEND (R185, R235). -/
def execXsend (u : BnId) (n : CompId) (c : Cyc) (f : IFields) (s : State) : Host.Outcome State Fault Refusal :=
  .next (s.instr u n c 0x30 f (fun b k => (b.xbar n.val (16 * caseOf n.val + f.im 3 0) (dbl (k.wa f) (k.wb f)), [])))

/-- XRECV (R235). -/
def execXrecv (u : BnId) (n : CompId) (c : Cyc) (f : IFields) (s : State) : Host.Outcome State Fault Refusal :=
  .next (s.instr u n c 0x31 f (fun b k => (b, [(1, .pair f.d.toNat k.xin)])))

/-- RSEND (R186, R235). -/
def execRsend (u : BnId) (n : CompId) (c : Cyc) (f : IFields) (s : State) : Host.Outcome State Fault Refusal :=
  let (s1, r) := s.free 1
  .next (s1.instr u n c 0x32 f (fun b k => (b.ring n.val (f.im 6 0) (dbl (k.wa f) (k.wb f)) (r % 2 == 1), [])))

/-- RRECV (R235). -/
def execRrecv (u : BnId) (n : CompId) (c : Cyc) (f : IFields) (s : State) : Host.Outcome State Fault Refusal :=
  .next (s.instr u n c 0x33 f (fun b k => (b, [(1, .pair f.d.toNat (if f.imm.toNat.testBit 0 then k.rinDn else k.rinUp))])))

/-- GPUT (R188, R189, R236). -/
def execGput (u : BnId) (n : CompId) (c : Cyc) (f : IFields) (s : State) : Host.Outcome State Fault Refusal :=
  .next (s.instr u n c 0x34 f (fun b k => 
    let r := b.claimG n.val
    if r.2 then ((r.1.qWrite (f.im 5 0) (dbl (k.wa f) (k.wb f)) (f.imm.toNat.testBit 6) false (b.cycle + 4)).1, []) else (r.1, [])))

/-- GGET (R188, R189, R236, R290): the double and its valid indication at the end of cycle c+5. -/
def execGget (u : BnId) (n : CompId) (c : Cyc) (f : IFields) (s : State) : Host.Outcome State Fault Refusal :=
  .next (s.instr u n c 0x35 f (fun b _ => 
    let r := b.claimG n.val
    let j := f.im 7 6
    if r.2 then
      let x := r.1.qGet (f.im 5 0)
      (x.1, [(6, .pairValid f.d.toNat x.2.1 j x.2.2)])
    else (r.1, [(6, .pairValid f.d.toNat 0 j false)])))

/-- JPUT (R188, R190, R237). -/
def execJput (u : BnId) (n : CompId) (c : Cyc) (f : IFields) (s : State) : Host.Outcome State Fault Refusal :=
  .next (s.instr u n c 0x36 f (fun b k => 
    let w := codeWord (k.wa f) (k.wb f) (f.im 5 0)
    if w.1 = 0 then (b, [])
    else
      let r := b.claimJ n.val
      if r.2 then (r.1.mapArr (fun a => { a with jwords := a.jwords ++ [w] }), []) else (r.1, [])))

/-- MARK (R188, R236): w0[19:17] forced to 111b. -/
def execMark (u : BnId) (n : CompId) (c : Cyc) (f : IFields) (s : State) : Host.Outcome State Fault Refusal :=
  .next (s.instr u n c 0x37 f (fun b k => 
    let r := b.claimG n.val
    let d := dbl (k.wa f ||| 0xE0000#20) (k.wb f)
    if r.2 then ((r.1.qWrite (f.im 5 0) d (f.imm.toNat.testBit 6) false (b.cycle + 4)).1, []) else (r.1, [])))

/-- RDSYS (R238). -/
def execRdsys (u : BnId) (n : CompId) (c : Cyc) (f : IFields) (s : State) : Host.Outcome State Fault Refusal :=
  .next (s.instr u n c 0x38 f (fun b _ => (b, one f (b.sysval s.variant n.val (f.im 4 0)))))

end Sys2Proof.Machine
end

