-- ==== Sys2Proof/Machine/Uplink.lean ====
section
/-! DEFINITION. What leaves the uplink in a crossing (R334, R338-R340, R347, R348, R372, R409-R412, R425, R482): the data sheet at
TX_NEXT from the replay reserve, or a status sheet; the t3 stamp (R164, R166); what waits for replies to leave (R442, R444, R478). -/

namespace Sys2Proof.Machine

/-! The replay reserve. -/

/-- The cell of a sheet's slot that holds words 4i to 4i + 3 (R298). -/
def slotCell (s : Word) (i : Nat) : Nat := 0x30000 + 32 * (s.toNat % 2048) + i

/-- A replay read of a cell (R284, R299): the outcome and the 80 data bits; a cell without a valid bit reads as zeros, a damaged one as
it stands. -/
def Bn.replayCell (b : Bn) (a : Nat) : Outcome4 × Nat :=
  let c := b.cell a
  if c.isValid = false then (.clean, 0)
  else
    match rsRead (addrCell a) c.data c.flips with
    | (.uncorrectable, _) => (.uncorrectable, rsRaw c.data c.flips)
    | (.addressFault, _) => (.addressFault, rsRaw c.data c.flips)
    | r => r

/-- A decode that leaves nothing to rely on. -/
def Outcome4.bad (o : Outcome4) : Bool := o == .uncorrectable || o == .addressFault

/-- Whether sheet s is held (R409). -/
def Bn.isHeld (b : Bn) (s : Word) : Bool :=
  let a := slotCell s 0
  let r := b.replayCell a
  (b.cell a).isValid && (r.1.bad || wof (r.2 / 2 ^ 60) == s)

/-- The sequence that slot j holds, as seen from `s`: the one of its w0, or, where w0 cannot be read, the first at or after s that the
slot serves. -/
def Bn.slotSeq (b : Bn) (s : Word) (j : Nat) : Option Word :=
  let a := 0x30000 + 32 * j
  if (b.cell a).isValid = false then none
  else
    let r := b.replayCell a
    if r.1.bad then some (s + wof ((j + 2048 - s.toNat % 2048) % 2048))
    else
      let v := wof (r.2 / 2 ^ 60)
      if v.toNat % 2048 = j then some v else none

/-- The next held sheet after s, up to the newest (R409). -/
def Bn.nextHeld (b : Bn) (s newest : Word) : Option Word :=
  let far := (newest - s).toNat
  (List.range 2048).foldl (fun (best : Option Word) j =>
    match b.slotSeq s j with
    | some v =>
      let d := (v - s).toNat
      if d ≤ far ∧ (match best with
        | some w => decide (d < (w - s).toNat)
        | none => true) = true then some v else best
    | none => best) none

/-- The newest held sheet older than h (R409). -/
def Bn.heldBefore (b : Bn) (h : Word) : Option Word :=
  (List.range 2048).foldl (fun (best : Option Word) j =>
    let v := match b.slotSeq (h - 2048#20) j with
      | some x => if older x h then some x else none
      | none => none
    match v, best with
    | some x, some w => if older w x then some x else best
    | some x, none => some x
    | none, _ => best) none

/-- The words of a stored sheet of n lanes, with the outcomes recorded (R284, R299). -/
def Bn.fetchSheet (b : Bn) (s : Word) (n : Nat) : Bn × List Word :=
  (List.range (8 * n)).foldl (fun (x : Bn × List Word) i =>
    let a := slotCell s i
    let r := x.1.replayCell a
    let b1 := x.1.outcome r.1 1 a
    (if r.1.bad then b1.bump 0x2C1E else b1, x.2 ++ wordsOf r.2 4)) (b, [])

/-! The transmit pointer. -/

/-- Whether the lanes let a data sheet leave (R372, R414). -/
def Bn.lanesReady (b : Bn) : Bool :=
  let n := fld (b.rd 0x2801) 2 0
  decide (1 ≤ n) && ([0, 1, 2, 3] : List Lane).all (fun l => decide (n ≤ l.val) || (b.lane l).st == .active)

/-- TX_NEXT in the gap of a doze in this run moves past it (R482). -/
def Bn.pastGap (b : Bn) (tx : Word) : Word :=
  let f := b.rd 0x1005
  let l := b.rd 0x1006
  if b.power.runBefore = true ∧ b.acq.sXc ≤ b.power.dozeD ∧ older l f = false ∧ older tx f = false ∧ older l tx = false then l + 1#20 else tx

/-- Whether s lies in the HOLD range (R409, R412). -/
def Bn.inHold (b : Bn) (s : Word) : Bool := b.sheets.hold && !older s (b.rd 0x200E) && !older (b.rd 0x200F) s

/-- A sheet sent after its due crossing (R340, R409). -/
def Bn.replayed (b : Bn) (s : Word) (n : Nat) (ws : List Word) : List Word :=
  let w2 := setFld (ws.getD 2 0) 4 4 1
  if b.inHold s = false then ws.set 2 w2
  else
    let old := match b.heldBefore (b.rd 0x200E) with
      | some h => ((b.fetchSheet h n).2.drop 3).take 4
      | none => List.replicate 4 0
    let body := (ws.take (32 * n - 2)).take 2 ++ [setFld w2 5 5 1] ++ old ++ ((ws.take (32 * n - 2)).drop 7)
    body ++ checkWords body (fld (ws.getD (32 * n - 1) 0) 7 0)

/-- The sheet that TX_NEXT names, or the next one held (R409); `none` when nothing is to be sent. -/
def Bn.pickSheet (b : Bn) : Bn × Option Word :=
  let tx0 := b.pastGap (b.rd 0x2009)
  let ack := b.rd 0x2008
  let tx := if older ack tx0 then tx0 else ack + 1#20
  let newest := b.rd 0x2C1C
  let b1 := b.wr 0x2009 tx
  if b.rd 0x2C1D = 0 ∨ older newest tx = true then (b1, none)
  else if b.isHeld tx then (b1, some tx)
  else
    match b.nextHeld tx newest with
    | some s => (b1, some s)
    | none => (b1.wr 0x2009 (newest + 1#20), none)

/-- The lanes below n carried a sheet (R340). -/
def Bn.carriedBy (b : Bn) (n : Nat) : Bn :=
  ([0, 1, 2, 3] : List Lane).foldl (fun b l => if l.val < n then b.setLane l { b.lane l with fault := false } else b) b

/-- Which marks have left whole: all that no unsent sheet holds. -/
def Bn.countSent (b : Bn) : Bn :=
  { b with marksSent := b.sheets.ctlIn.foldl (fun m p => min m p.2) b.marksOut }

/-- t3 of a sheet that leaves in this crossing (R164, R166): 1.50 ns after the boundary, with the noise of the stamp; its echo waits for
the next sheet. -/
def Bn.stampT3 (b : Bn) (seq : Word) (noise : Nat) : Bn :=
  let b1 := b.wrQuad 0x1818 (tkNear b.time.t (sx noise 6 + 1536))
  let w := b1.rd 0x180F
  { b1.wr 0x180F (setFld w 10 10 1) with time := { b1.time with echo := some (fld w 19 12, seq.toNat) } }

/-- A data sheet leaves (R409, R410, R425). -/
def Bn.sendData (b : Bn) (sln2 : Bool) (s : Word) (noise : Nat) : Bn :=
  let n := fld (b.rd 0x2801) 2 0
  let b0 := if b.sheets.tkR then { b.wr 0x200F (b.due (b.now + 2 ^ 48 - 1)) with sheets := { b.sheets with tkR := false } } else b
  let due := b0.due b0.now
  let late := older s due
  let (b1, ws) := b0.fetchSheet s n
  let sent := if late then b1.replayed s n ws else ws
  let b2 := (b1.wr 0x2009 (s + 1#20)).wr 0x200A (due - s)
  let b3 := if sln2 then b2.wr 0x2008 s else b2
  let b4 := if late = false ∧ b.sheets.dreq = some s then
      { b3.stampT3 s noise with sheets := { b3.sheets with dreq := none } } else b3
  { b4.carriedBy n with sheets := { b4.sheets with
    sentAt := some b.xc, sent := sent, ctlIn := b4.sheets.ctlIn.filter (fun p => older s p.1) } }.countSent

/-- w3 and w4 of a status sheet (R348). -/
def Bn.statusWords (b : Bn) (sln2 : Bool) : List Word :=
  [wof (b.lease.role.code * 2 ^ 16 + b.power.dev.code * 2 ^ 13 + b.acq.phase.code * 2 ^ 10 + b.time.step * 2 ^ 8 +
      b2n (sln2 || b.xl.down) * 2 ^ 7 + b2n b.lease.diverge * 2 ^ 6 + b2n b.loader.live * 2 ^ 5),
    wof (b.boot.straps.posId.toNat * 2 ^ 14 + b.unit.bit * 2 ^ 13), 0, 0]

/-- A status sheet leaves on lane 0 (R334, R338, R347, R348): assembled in the crossing before. -/
def Bn.sendStatus (b : Bn) (sln2 : Bool) (noise : Nat) : Bn :=
  let dly := match b.time.delayReq with
    | some x => decide (x ≤ b.xc)
    | none => false
  let seq := wof b.time.prev
  let flags := b2n dly * 8 + b2n b.lease.claim * 4
  let (b1, ctl) := b.flushEcho.ctlRegion 22
  let ws := [seq, wof (2 ^ 16 + b.time.prev % 2 ^ 16), wof flags] ++ b.statusWords sln2 ++ ctl
  let sent := ws ++ checkWords ws (b.health 1)
  let b2 := if dly then (b1.stampT3 seq noise).mapTime (fun t => { t with delayReq := none }) else b1
  { b2.carriedBy 1 with sheets := { b2.sheets with
    sentAt := some b.xc, sent := sent, ctlIn := if b.holds then b2.sheets.ctlIn else [] } }.countSent

/-- The entry crossing of an accepted DOZE or SLEEP is the one after that in which its reply left (R478). -/
def Bn.entrySet (b : Bn) : Bn :=
  b.power.after.foldl (fun b p =>
    if p.1 = .entry ∧ b.hasLeft p.2 = true then
      b.mapPower (fun x => { x with
        after := removeFirst (fun q => q == p) x.after, entry := x.entry.map (fun e => { e with d := some (b.xc + 1) }) })
    else b) b

/-- The sheet of this crossing (R334, R372, R409). -/
def Bn.transmit (b : Bn) (sln2 : Bool) (noise : Nat) : Bn :=
  let b1 :=
    if b.holds = true ∧ b.hoPause = false ∧ b.lanesReady = true then
      match b.pickSheet with
      | (x, some s) => x.sendData sln2 s noise
      | (x, none) => x.sendStatus sln2 noise
    else b.sendStatus sln2 noise
  b1.entrySet

/-- SHEET_TRANSMIT: once in each crossing in which lane 0 carries content (R334). A RESET_BLOCK of the die follows its reply (R444). -/
def execSheetTransmit (u : BnId) (s : State) : Host.Outcome State Fault Refusal :=
  let b := s.bn u
  if s.hasBn u = true ∧ b.power.dev.runsPackets = true ∧ b.power.clkWait = false ∧ (b.lane 0).st = .active ∧ b.sheets.sentAt ≠ some b.xc then
    let r := s.free 3
    let b1 := b.transmit (s.variant == .sln2) r.2
    let s1 := r.1.setBn u b1
    if b1.power.after.any (fun p => p.1 == .resetDie && b1.hasLeft p.2) = true then
      let q := s1.free 4
      .next (q.1.mapBn u (fun b => b.interrupted s.variant b.boot.straps 3 q.2))
    else .next s1
  else .next s

end Sys2Proof.Machine
end

