-- ==== Sys2Proof/Machine/TestPort.lean ====
section
/-! DEFINITION. The test access port (R557): the controller of IEEE 1149.1 in each BN die, chained TDI → BN-A → BN-B → TDO. Codes, the
length of the instruction register and the number of boundary cells are the part's (Config); what the balls show when they are captured
is free. -/

namespace Sys2Proof.Machine

/-- Whether the port of a die is enabled: step 1 of a boot with BOOTSEL = 11b (R557). -/
def Bn.tapOn (b : Bn) : Bool := b.power.dev == .boot && b.boot.step == 1 && b.boot.straps.bootsel == 3

/-- The controller after a rising edge of TCK. -/
def TapState.next (st : TapState) (tms : Bool) : TapState :=
  match st, tms with
  | .reset, true => .reset
  | .reset, false => .idle
  | .idle, true => .selDr
  | .idle, false => .idle
  | .selDr, true => .selIr
  | .selDr, false => .capDr
  | .capDr, true => .exit1Dr
  | .capDr, false => .shiftDr
  | .shiftDr, true => .exit1Dr
  | .shiftDr, false => .shiftDr
  | .exit1Dr, true => .updDr
  | .exit1Dr, false => .pauseDr
  | .pauseDr, true => .exit2Dr
  | .pauseDr, false => .pauseDr
  | .exit2Dr, true => .updDr
  | .exit2Dr, false => .shiftDr
  | .updDr, true => .selDr
  | .updDr, false => .idle
  | .selIr, true => .reset
  | .selIr, false => .capIr
  | .capIr, true => .exit1Ir
  | .capIr, false => .shiftIr
  | .shiftIr, true => .exit1Ir
  | .shiftIr, false => .shiftIr
  | .exit1Ir, true => .updIr
  | .exit1Ir, false => .pauseIr
  | .pauseIr, true => .exit2Ir
  | .pauseIr, false => .pauseIr
  | .exit2Ir, true => .updIr
  | .exit2Ir, false => .shiftIr
  | .updIr, true => .selDr
  | .updIr, false => .idle

/-- The IDCODE of a BN die of stepping B (R557). -/
def idcodeWord : Nat := 0x25A404BB

/-- Bits of a number, the least significant first. -/
def lowBits (n k : Nat) : List Bool := (List.range k).map n.testBit

/-- The number that bits spell, the first one least significant. -/
def ofLowBits (bs : List Bool) : Nat := bs.foldr (fun b a => 2 * a + b2n b) 0

/-- The instruction of a code: all zeros EXTEST, all ones BYPASS, as a code that is not used. -/
def tapDecode (code : Nat) : TapInstr :=
  if code = 0 then .extest else if code = Config.tapSample then .sample else if code = Config.tapIdcode then .idcode else .bypass

/-- What the data register captures; `pins` spells what the balls show. -/
def TapInstr.capture (i : TapInstr) (pins : Nat) : List Bool :=
  match i with
  | .bypass => [false]
  | .idcode => lowBits idcodeWord 32
  | .sample => lowBits pins Config.tapCells
  | .extest => lowBits pins Config.tapCells

/-- A rising edge of TCK with TMS and the bit at TDI. -/
def Tap.rise (t : Tap) (tms tdi : Bool) (pins : Nat) : Tap :=
  let t1 : Tap := match t.st with
    | .capDr => { t with dr := t.ir.capture pins }
    | .shiftDr => { t with dr := t.dr.drop 1 ++ [tdi] }
    | .capIr => { t with irSh := lowBits (4 * pins + 1) Config.tapIrLen }
    | .shiftIr => { t with irSh := t.irSh.drop 1 ++ [tdi] }
    | _ => t
  { t1 with st := t.st.next tms }

/-- A falling edge of TCK: TDO changes, and what is updated takes effect. -/
def Tap.fall (t : Tap) : Tap :=
  let t1 : Tap := match t.st with
    | .updDr => if t.ir = .sample ∨ t.ir = .extest then { t with bsr := t.dr } else t
    | .updIr => { t with ir := tapDecode (ofLowBits t.irSh) }
    | .reset => { t with ir := .idcode }
    | _ => t
  { t1 with tdo := match t.st with
    | .shiftDr => t.dr.head?
    | .shiftIr => t.irSh.head?
    | _ => none }

/-- One event at the port of a die; a port that is not enabled, or whose TRST_N is low, is held in reset. -/
def Bn.tapStep (b : Bn) (ev : TapEvent) (trst tdi : Bool) (pins : Nat) : Bn :=
  if b.tapOn = true ∧ trst = true then
    { b with tap := match ev with
      | .rise tms _ => b.tap.rise tms tdi pins
      | .fall => b.tap.fall
      | .trst _ => b.tap }
  else { b with tap := .rest }

/-- TEST_ACCESS_PORT (R557): BN-B takes what BN-A drives; a line that nothing drives shows a free value. -/
def execTestAccessPort (ev : TapEvent) (s : State) : Host.Outcome State Fault Refusal :=
  let r := s.free 5
  let q := r.1.free 5
  let tdi := match ev with
    | .rise _ x => x
    | _ => true
  let mid := s.bnA.tap.tdo.getD ((r.2 / 2 ^ 64).testBit 0)
  let high := match ev with
    | .trst x => x
    | _ => s.trstPin
  let s1 := { q.1 with trstPin := high }.mapBn .a (fun b => b.tapStep ev high tdi r.2)
  .next (if s.variant = .sln2 then s1 else s1.mapBn .b (fun b => b.tapStep ev high mid q.2))

end Sys2Proof.Machine
end

