-- ==== Sys2Proof/Machine/Dispatch.lean ====
section
/-! DEFINITION. The meaning of every command of the table, one direct call an arm. -/

namespace Sys2Proof.Machine

/-- What a command does to everything but the queue. -/
def exec (i : Instr) (s : State) : Host.Outcome State Fault Refusal :=
  match i with
  | .powerUp u st => Sys2Proof.Machine.execPowerUp u st s
  | .downlinkLock u => Sys2Proof.Machine.execDownlinkLock u s
  | .pllLock u => Sys2Proof.Machine.execPllLock u s
  | .ligatureTraining u d ok => Sys2Proof.Machine.execLigatureTraining u d ok s
  | .domainWakeFailure dom w => Sys2Proof.Machine.execDomainWakeFailure dom w s
  | .bootDeadline u => Sys2Proof.Machine.execBootDeadline u s
  | .watchdog u => Sys2Proof.Machine.execWatchdog u s
  | .vaoRemoval u => Sys2Proof.Machine.execVaoRemoval u s
  | .pinReset u st => Sys2Proof.Machine.execPinReset u st s
  | .supplySupervisorReset u => Sys2Proof.Machine.execSupplySupervisorReset u s
  | .fvReset d powerUp => Sys2Proof.Machine.execFvReset d powerUp s
  | .fvSelfTest d => Sys2Proof.Machine.execFvSelfTest d s
  | .fvRestore u d => Sys2Proof.Machine.execFvRestore u d s
  | .downlinkBlock u h payload => Sys2Proof.Machine.execDownlinkBlock u h payload s
  | .downlinkLockLoss u => Sys2Proof.Machine.execDownlinkLockLoss u s
  | .downlinkRelock u => Sys2Proof.Machine.execDownlinkRelock u s
  | .trig u arg => Sys2Proof.Machine.execTrig u arg s
  | .xreset u => Sys2Proof.Machine.execXreset u s
  | .sync u arg => Sys2Proof.Machine.execSync u arg s
  | .lease u arg => Sys2Proof.Machine.execLease u arg s
  | .releaseAsk u arg => Sys2Proof.Machine.execReleaseAsk u arg s
  | .impressGo u arg => Sys2Proof.Machine.execImpressGo u arg s
  | .calpulse u => Sys2Proof.Machine.execCalpulse u s
  | .ack u arg => Sys2Proof.Machine.execAck u arg s
  | .wakeHold u => Sys2Proof.Machine.execWakeHold u s
  | .wakeHoldEnd u => Sys2Proof.Machine.execWakeHoldEnd u s
  | .packetScreen u => Sys2Proof.Machine.execPacketScreen u s
  | .packetTimeout u => Sys2Proof.Machine.execPacketTimeout u s
  | .nop u tag => Sys2Proof.Machine.execNop u tag s
  | .echo u tag ws => Sys2Proof.Machine.execEcho u tag ws s
  | .openSession u tag d0 key => Sys2Proof.Machine.execOpenSession u tag d0 key s
  | .closeSession u tag => Sys2Proof.Machine.execCloseSession u tag s
  | .read u tag d0 d1 => Sys2Proof.Machine.execRead u tag d0 d1 s
  | .write u tag d0 vals => Sys2Proof.Machine.execWrite u tag d0 vals s
  | .stage u tag d0 vals => Sys2Proof.Machine.execStage u tag d0 vals s
  | .proof u tag d0 => Sys2Proof.Machine.execProof u tag d0 s
  | .impress u tag d0 d1 d2 d3 => Sys2Proof.Machine.execImpress u tag d0 d1 d2 d3 s
  | .discard u tag => Sys2Proof.Machine.execDiscard u tag s
  | .formeLoad u tag d0 ws => Sys2Proof.Machine.execFormeLoad u tag d0 ws s
  | .formeVerify u tag => Sys2Proof.Machine.execFormeVerify u tag s
  | .queueFlush u tag d0 d1 d2 d3 => Sys2Proof.Machine.execQueueFlush u tag d0 d1 d2 d3 s
  | .scrub u tag d0 d1 d2 => Sys2Proof.Machine.execScrub u tag d0 d1 d2 s
  | .scrubReport u tag => Sys2Proof.Machine.execScrubReport u tag s
  | .hkUrgent u tag d0 => Sys2Proof.Machine.execHkUrgent u tag d0 s
  | .statsStart u tag d0 => Sys2Proof.Machine.execStatsStart u tag d0 s
  | .statsRead u tag d0 => Sys2Proof.Machine.execStatsRead u tag d0 s
  | .tapSet u tag d0 => Sys2Proof.Machine.execTapSet u tag d0 s
  | .tapRead u tag d0 => Sys2Proof.Machine.execTapRead u tag d0 s
  | .timeStep u tag d0 d1 d2 d3 d4 d5 d6 => Sys2Proof.Machine.execTimeStep u tag d0 d1 d2 d3 d4 d5 d6 s
  | .timeRate u tag d0 d1 d2 d3 d4 => Sys2Proof.Machine.execTimeRate u tag d0 d1 d2 d3 d4 s
  | .timeRead u tag => Sys2Proof.Machine.execTimeRead u tag s
  | .sleep u tag => Sys2Proof.Machine.execSleep u tag s
  | .doze u tag => Sys2Proof.Machine.execDoze u tag s
  | .wake u tag d0 => Sys2Proof.Machine.execWake u tag d0 s
  | .resetBlockFv u tag d => Sys2Proof.Machine.execResetBlockFv u tag d s
  | .resetBlockBn u tag toSeven blk => Sys2Proof.Machine.execResetBlockBn u tag toSeven blk s
  | .resetBlockHkc u tag => Sys2Proof.Machine.execResetBlockHkc u tag s
  | .laneRestart u tag l => Sys2Proof.Machine.execLaneRestart u tag l s
  | .selftestChecker u tag reserved => Sys2Proof.Machine.execSelftestChecker u tag reserved s
  | .selftestProbe u tag => Sys2Proof.Machine.execSelftestProbe u tag s
  | .selftestGalley u tag => Sys2Proof.Machine.execSelftestGalley u tag s
  | .bootInfo u tag d0 => Sys2Proof.Machine.execBootInfo u tag d0 s
  | .bootClear u tag => Sys2Proof.Machine.execBootClear u tag s
  | .leaseInfo u tag d0 => Sys2Proof.Machine.execLeaseInfo u tag d0 s
  | .enter u tag code => Sys2Proof.Machine.execEnter u tag code s
  | .leave u tag => Sys2Proof.Machine.execLeave u tag s
  | .stateSave u tag d0 => Sys2Proof.Machine.execStateSave u tag d0 s
  | .stateRestore u tag d0 ws => Sys2Proof.Machine.execStateRestore u tag d0 ws s
  | .keySet u tag lvl slot digest => Sys2Proof.Machine.execKeySet u tag lvl slot digest s
  | .revoke u tag lvl slot digest => Sys2Proof.Machine.execRevoke u tag lvl slot digest s
  | .patchLoad u tag entry ws => Sys2Proof.Machine.execPatchLoad u tag entry ws s
  | .patchClear u tag entry ws => Sys2Proof.Machine.execPatchClear u tag entry ws s
  | .otpRead u tag d0 d1 => Sys2Proof.Machine.execOtpRead u tag d0 d1 s
  | .registerWrite u staged addr val => Sys2Proof.Machine.execRegisterWrite u staged addr val s
  | .cntClear t => Sys2Proof.Machine.execCntClear t s
  | .start u => Sys2Proof.Machine.execStart u s
  | .stop u => Sys2Proof.Machine.execStop u s
  | .countRunStart u d sel len => Sys2Proof.Machine.execCountRunStart u d sel len s
  | .countRunStop u d sel len => Sys2Proof.Machine.execCountRunStop u d sel len s
  | .countWindowEnd d => Sys2Proof.Machine.execCountWindowEnd d s
  | .snap u load => Sys2Proof.Machine.execSnap u load s
  | .exchangeEvaluation u val => Sys2Proof.Machine.execExchangeEvaluation u val s
  | .loadData u val => Sys2Proof.Machine.execLoadData u val s
  | .loadReset u => Sys2Proof.Machine.execLoadReset u s
  | .fvImpressDiscard u d => Sys2Proof.Machine.execFvImpressDiscard u d s
  | .safeClear u d => Sys2Proof.Machine.execSafeClear u d s
  | .clkSel u src => Sys2Proof.Machine.execClkSel u src s
  | .calfailCntAutoInc u d => Sys2Proof.Machine.execCalfailCntAutoInc u d s
  | .fdomReq u d dom req => Sys2Proof.Machine.execFdomReq u d dom req s
  | .windowTableWrite u staged idx val => Sys2Proof.Machine.execWindowTableWrite u staged idx val s
  | .hkStart u => Sys2Proof.Machine.execHkStart u s
  | .hkRunStop u => Sys2Proof.Machine.execHkRunStop u s
  | .genEn u l val => Sys2Proof.Machine.execGenEn u l val s
  | .chkEn u l val => Sys2Proof.Machine.execChkEn u l val s
  | .prbsDurEnd u l => Sys2Proof.Machine.execPrbsDurEnd u l s
  | .checkerLock u l mism => Sys2Proof.Machine.execCheckerLock u l mism s
  | .injOne u l both => Sys2Proof.Machine.execInjOne u l both s
  | .injBurst u l len => Sys2Proof.Machine.execInjBurst u l len s
  | .leadingEdge d ch disc e nextXc k e1 e2 e3 => Sys2Proof.Machine.execLeadingEdge d ch disc e nextXc k e1 e2 e3 s
  | .trailingEdge d ch disc e t => Sys2Proof.Machine.execTrailingEdge d ch disc e t s
  | .ringOverflow d ch e => Sys2Proof.Machine.execRingOverflow d ch e s
  | .saturation d ch e => Sys2Proof.Machine.execSaturation d ch e s
  | .take d t e => Sys2Proof.Machine.execTake d t e s
  | .hitDelivery d t e => Sys2Proof.Machine.execHitDelivery d t e s
  | .reArm d ch e => Sys2Proof.Machine.execReArm d ch e s
  | .frameFill d => Sys2Proof.Machine.execFrameFill d s
  | .injectionPulse d => Sys2Proof.Machine.execInjectionPulse d s
  | .frameCheck u d pos others err => Sys2Proof.Machine.execFrameCheck u d pos others err s
  | .ligatureDelivery u d beat => Sys2Proof.Machine.execLigatureDelivery u d beat s
  | .bnFrameReceive d u err => Sys2Proof.Machine.execBnFrameReceive d u err s
  | .tdcRestart d => Sys2Proof.Machine.execTdcRestart d s
  | .fvImpress d => Sys2Proof.Machine.execFvImpress d s
  | .scaleApply d => Sys2Proof.Machine.execScaleApply d s
  | .phaseMeasurement d t first near vT e1 e2 e3 => Sys2Proof.Machine.execPhaseMeasurement d t first near vT e1 e2 e3 s
  | .requestServe d => Sys2Proof.Machine.execRequestServe d s
  | .requestTimeout u d => Sys2Proof.Machine.execRequestTimeout u d s
  | .keepalive d => Sys2Proof.Machine.execKeepalive d s
  | .clockLossLine d u => Sys2Proof.Machine.execClockLossLine d u s
  | .refloss d u => Sys2Proof.Machine.execRefloss d u s
  | .referenceReturn d u => Sys2Proof.Machine.execReferenceReturn d u s
  | .probeStep u n dev => Sys2Proof.Machine.execProbeStep u n dev s
  | .probeRound u => Sys2Proof.Machine.execProbeRound u s
  | .nopInstruction u n c op f => Sys2Proof.Machine.execNopInstruction u n c op f s
  | .add u n c f => Sys2Proof.Machine.execAdd u n c f s
  | .sub u n c f => Sys2Proof.Machine.execSub u n c f s
  | .adds u n c f => Sys2Proof.Machine.execAdds u n c f s
  | .subs u n c f => Sys2Proof.Machine.execSubs u n c f s
  | .addi u n c f => Sys2Proof.Machine.execAddi u n c f s
  | .addis u n c f => Sys2Proof.Machine.execAddis u n c f s
  | .ldi u n c f => Sys2Proof.Machine.execLdi u n c f s
  | .and u n c f => Sys2Proof.Machine.execAnd u n c f s
  | .or u n c f => Sys2Proof.Machine.execOr u n c f s
  | .xor u n c f => Sys2Proof.Machine.execXor u n c f s
  | .andi u n c f => Sys2Proof.Machine.execAndi u n c f s
  | .ori u n c f => Sys2Proof.Machine.execOri u n c f s
  | .xori u n c f => Sys2Proof.Machine.execXori u n c f s
  | .min u n c f => Sys2Proof.Machine.execMin u n c f s
  | .max u n c f => Sys2Proof.Machine.execMax u n c f s
  | .abs u n c f => Sys2Proof.Machine.execAbs u n c f s
  | .negs u n c f => Sys2Proof.Machine.execNegs u n c f s
  | .shl u n c f => Sys2Proof.Machine.execShl u n c f s
  | .shr u n c f => Sys2Proof.Machine.execShr u n c f s
  | .sra u n c f => Sys2Proof.Machine.execSra u n c f s
  | .shli u n c f => Sys2Proof.Machine.execShli u n c f s
  | .shri u n c f => Sys2Proof.Machine.execShri u n c f s
  | .srai u n c f => Sys2Proof.Machine.execSrai u n c f s
  | .ext u n c f => Sys2Proof.Machine.execExt u n c f s
  | .exts u n c f => Sys2Proof.Machine.execExts u n c f s
  | .ins u n c f => Sys2Proof.Machine.execIns u n c f s
  | .clz u n c f => Sys2Proof.Machine.execClz u n c f s
  | .cmp u n c f => Sys2Proof.Machine.execCmp u n c f s
  | .cmpi u n c f => Sys2Proof.Machine.execCmpi u n c f s
  | .sel u n c f => Sys2Proof.Machine.execSel u n c f s
  | .pset u n c f => Sys2Proof.Machine.execPset u n c f s
  | .mula u n c f => Sys2Proof.Machine.execMula u n c f s
  | .mac u n c f => Sys2Proof.Machine.execMac u n c f s
  | .macs u n c f => Sys2Proof.Machine.execMacs u n c f s
  | .msu u n c f => Sys2Proof.Machine.execMsu u n c f s
  | .msus u n c f => Sys2Proof.Machine.execMsus u n c f s
  | .maci u n c f => Sys2Proof.Machine.execMaci u n c f s
  | .rda u n c f => Sys2Proof.Machine.execRda u n c f s
  | .wra u n c f => Sys2Proof.Machine.execWra u n c f s
  | .mul u n c f => Sys2Proof.Machine.execMul u n c f s
  | .tld u n c f => Sys2Proof.Machine.execTld u n c f s
  | .luti u n c f => Sys2Proof.Machine.execLuti u n c f s
  | .recip u n c f => Sys2Proof.Machine.execRecip u n c f s
  | .rstep u n c f => Sys2Proof.Machine.execRstep u n c f s
  | .xsend u n c f => Sys2Proof.Machine.execXsend u n c f s
  | .xrecv u n c f => Sys2Proof.Machine.execXrecv u n c f s
  | .rsend u n c f => Sys2Proof.Machine.execRsend u n c f s
  | .rrecv u n c f => Sys2Proof.Machine.execRrecv u n c f s
  | .gput u n c f => Sys2Proof.Machine.execGput u n c f s
  | .gget u n c f => Sys2Proof.Machine.execGget u n c f s
  | .jput u n c f => Sys2Proof.Machine.execJput u n c f s
  | .mark u n c f => Sys2Proof.Machine.execMark u n c f s
  | .rdsys u n c f => Sys2Proof.Machine.execRdsys u n c f s
  | .compositorScrub u => Sys2Proof.Machine.execCompositorScrub u s
  | .bankCopy u n => Sys2Proof.Machine.execBankCopy u n s
  | .tblCrc u n => Sys2Proof.Machine.execTblCrc u n s
  | .impressApply u => Sys2Proof.Machine.execImpressApply u s
  | .queueFlushApply u q => Sys2Proof.Machine.execQueueFlushApply u q s
  | .backgroundScrub u => Sys2Proof.Machine.execBackgroundScrub u s
  | .scrubComplete u => Sys2Proof.Machine.execScrubComplete u s
  | .waterMarks u => Sys2Proof.Machine.execWaterMarks u s
  | .cutStep u => Sys2Proof.Machine.execCutStep u s
  | .runStart u => Sys2Proof.Machine.execRunStart u s
  | .drain u => Sys2Proof.Machine.execDrain u s
  | .drainEnd u => Sys2Proof.Machine.execDrainEnd u s
  | .sheetAssembly u => Sys2Proof.Machine.execSheetAssembly u s
  | .sheetTransmit u => Sys2Proof.Machine.execSheetTransmit u s
  | .trainingBurstEnd u l => Sys2Proof.Machine.execTrainingBurstEnd u l s
  | .los u l asserted => Sys2Proof.Machine.execLos u l asserted s
  | .lol u l lost => Sys2Proof.Machine.execLol u l lost s
  | .blockLock u l valid => Sys2Proof.Machine.execBlockLock u l valid s
  | .wakePattern u active samples => Sys2Proof.Machine.execWakePattern u active samples s
  | .crossLinkFrame u arrived blocksOk inWindow err => Sys2Proof.Machine.execCrossLinkFrame u arrived blocksOk inWindow err s
  | .xlinkDown u => Sys2Proof.Machine.execXlinkDown u s
  | .xlinkUp u => Sys2Proof.Machine.execXlinkUp u s
  | .anchor u => Sys2Proof.Machine.execAnchor u s
  | .twin u => Sys2Proof.Machine.execTwin u s
  | .state u => Sys2Proof.Machine.execState u s
  | .entryAsk u => Sys2Proof.Machine.execEntryAsk u s
  | .entry u => Sys2Proof.Machine.execEntry u s
  | .entryDefer u => Sys2Proof.Machine.execEntryDefer u s
  | .lock u => Sys2Proof.Machine.execLock u s
  | .entryAbort u => Sys2Proof.Machine.execEntryAbort u s
  | .handover u => Sys2Proof.Machine.execHandover u s
  | .accept u => Sys2Proof.Machine.execAccept u s
  | .commit u => Sys2Proof.Machine.execCommit u s
  | .handoverEnd u => Sys2Proof.Machine.execHandoverEnd u s
  | .therm u => Sys2Proof.Machine.execTherm u s
  | .leaseExpiry u => Sys2Proof.Machine.execLeaseExpiry u s
  | .claim u => Sys2Proof.Machine.execClaim u s
  | .dozeEntry u => Sys2Proof.Machine.execDozeEntry u s
  | .dozeExit u => Sys2Proof.Machine.execDozeExit u s
  | .dozeLimit u => Sys2Proof.Machine.execDozeLimit u s
  | .sleepEntry u => Sys2Proof.Machine.execSleepEntry u s
  | .clockSourceFailure u src => Sys2Proof.Machine.execClockSourceFailure u src s
  | .clockWaitEnd u ms => Sys2Proof.Machine.execClockWaitEnd u ms s
  | .xoFail u => Sys2Proof.Machine.execXoFail u s
  | .pantryScrub u => Sys2Proof.Machine.execPantryScrub u s
  | .pantrySweep u => Sys2Proof.Machine.execPantrySweep u s
  | .sessionTimeout u => Sys2Proof.Machine.execSessionTimeout u s
  | .lockoutEnd u lvl => Sys2Proof.Machine.execLockoutEnd u lvl s
  | .timeStepEffect u => Sys2Proof.Machine.execTimeStepEffect u s
  | .timeRateEffect u => Sys2Proof.Machine.execTimeRateEffect u s
  | .hkRoundStart u => Sys2Proof.Machine.execHkRoundStart u s
  | .hkOutputSample u raw instant => Sys2Proof.Machine.execHkOutputSample u raw instant s
  | .hkDwellEnd u => Sys2Proof.Machine.execHkDwellEnd u s
  | .urgentConversion u => Sys2Proof.Machine.execUrgentConversion u s
  | .openCircuit u => Sys2Proof.Machine.execOpenCircuit u s
  | .overRange u negative => Sys2Proof.Machine.execOverRange u negative s
  | .blank u high => Sys2Proof.Machine.execBlank u high s
  | .grace u => Sys2Proof.Machine.execGrace u s
  | .holdS u => Sys2Proof.Machine.execHoldS u s
  | .holdoverCrossing u => Sys2Proof.Machine.execHoldoverCrossing u s
  | .clockWaitAdvance u => Sys2Proof.Machine.execClockWaitAdvance u s
  | .powerGood dom => Sys2Proof.Machine.execPowerGood dom s
  | .testAccessPort ev => Sys2Proof.Machine.execTestAccessPort ev s
  | .shadowEntryEnd u => Sys2Proof.Machine.execShadowEntryEnd u s

end Sys2Proof.Machine
end

