-- ==== Sys2Proof/Certificates/Slice0/Obligations.lean ====
section
/-! DEFINITION. The statements for the provers. Each says, for some commands of the table, what state follows and what does not
change. A statement gives the state whole where it can: then what it does not name is unchanged. -/

namespace Sys2Proof.Claims

open Sys2Proof.Machine

/-- The outcomes of a command. -/
abbrev Out := Host.Outcome State Fault Refusal

/-- Nothing but one BN die changes, the count of free values apart. -/
def OnlyUnit (u : BnId) (s t : State) : Prop :=
  t.variant = s.variant ∧ t.gradeH = s.gradeH ∧ t.bn u.other = s.bn u.other ∧ t.fvs = s.fvs ∧ t.blankPin = s.blankPin ∧
    t.trstPin = s.trstPin ∧ t.pending = s.pending

/-- A packet of these words stands first, and the copyholder is free to execute it (R430, R442). -/
def Runs (s : State) (u : BnId) (op : Nat) (tag : Tag) (ws : List Word) (rest : List Pkt) : Prop :=
  (s.bn u).waiting = mkPkt op tag ws :: rest ∧ (s.bn u).job = none ∧ (s.bn u).power.dev.runsPackets = true ∧
    (s.bn u).power.clkWait = false

/-- The unit with the packet taken from its waiting packets. -/
def taken (s : State) (u : BnId) (rest : List Pkt) : Bn := { s.bn u with waiting := rest }

/-- The command leaves the unit as `b` with one reply queued: its status and data words. -/
def Answers (s : State) (u : BnId) (c : Instr) (tag : Tag) (op : Nat) (b : Bn) (st : Status) (data : List Word) : Prop :=
  exec c s = .next (s.setBn u (b.reply tag.toNat op st data))

/-- A present unit that is awake, with no accepted entry, whose downlink delivers blocks (R374, R379). -/
def Hears (s : State) (u : BnId) : Prop :=
  s.hasBn u = true ∧ (s.bn u).downOk = true ∧ (s.bn u).power.dev ≠ .doze ∧ (s.bn u).power.entry = none

/-- A present unit that executes accesses (R442). -/
def Works (s : State) (u : BnId) : Prop := s.hasBn u = true ∧ (s.bn u).executes = true

/-- The parts that a variant lacks are as they are before any supply: the second unit of an SLN-2, the FV dies beyond its number. -/
def AbsentDark (s : State) : Prop :=
  (∀ u, s.hasBn u = false → s.bn u = Bn.dark u) ∧ ∀ d, s.variant.hasFv d = false → s.fv d = Fv.dark

/-- The role of a unit fits its device state, and so does one that waits (R46): no role where the die does not work, MINIMAL in
MINIMAL, and only in READY, RUN and DOZE one of the others. -/
def RoleFits (b : Bn) : Prop :=
  let works := b.power.dev = .ready ∨ b.power.dev = .run ∨ b.power.dev = .doze
  (works → b.lease.role ≠ .none ∧ b.lease.role ≠ .minimal ∧ ∀ r x, b.lease.next = some (r, x) → r ≠ .none ∧ r ≠ .minimal) ∧
  (b.power.dev = .minimal → b.lease.role = .minimal ∧ b.lease.next = none) ∧
  (¬ works → b.power.dev ≠ .minimal → b.lease.role = .none ∧ b.lease.next = none)

end Sys2Proof.Claims

open Sys2Proof Sys2Proof.Machine Sys2Proof.Claims

/-! ## The queue of commands and the machine as a whole -/

/-- Log entry 4: one step takes the command at the front of the queue and executes it on the state with the rest; an empty queue
idles. -/
def Obligations.StepRunsFrontCommand : Prop :=
  (∀ (s : State) (c : Instr) (rest : List Instr), s.pending = c :: rest → step s = exec c { s with pending := rest }) ∧
  (∀ s : State, s.pending = [] → step s = .next s)

/-- Every command of the table has an effect: no step faults, none is refused. -/
def Obligations.NoStepStops : Prop := ∀ s : State, ∃ t : State, step s = .next t

/-- R459, R477, R543: before VAO every BN die is OFF without a role, every FV die without supplies, the pantry and the registers at
their reset values, slot 0 of each key level programmed; the variant is the model's choice (log entry 3). -/
def Obligations.ResetIsOff : Prop :=
  State.reset.pending = [] ∧ State.reset.variant = .sln8 ∧
  (∀ u, (State.reset.bn u).power.dev = .off ∧ (State.reset.bn u).lease.role = .none ∧ (State.reset.bn u).sess.level = .open ∧
    (∀ o, (State.reset.bn u).rd o = bnDef o) ∧ (∀ w, (State.reset.bn u).pw w = pantryDef w) ∧
    ∀ lvl i, ((State.reset.bn u).sess.slotAt lvl i).programmed = decide (i.val = 0) ∧
      ((State.reset.bn u).sess.slotAt lvl i).revoked = false) ∧
  (∀ d, (State.reset.fv d).powered = false ∧ (State.reset.fv d).regs = [] ∧ (State.reset.fv d).safe = true) ∧
  AbsentDark State.reset ∧ ∀ u, RoleFits (State.reset.bn u)

/-! ## Boot, resets, power-up -/

/-- R542, R543, R546, R547, R567, R477, R544, R552: power-up and every reset of a BN die boot it, with the session at OPEN, no role and
acquisition idle; the key slots in OTP and, but at a pin reset, the straps stay. Without VAO a die is OFF and its pantry empty; its OTP
words stay. -/
def Obligations.ResetsAndPowerRemoval : Prop :=
  (
  ∀ (s : State) (u : BnId), s.hasBn u = true →
    let booted (t : State) (st : Straps) : Prop :=
      (t.bn u).power.dev = .boot ∧ (t.bn u).sess.level = .open ∧ (t.bn u).lease.role = .none ∧ (t.bn u).acq.phase = .idle ∧
        (t.bn u).boot.straps = st ∧ (t.bn u).sess.slotsA = (s.bn u).sess.slotsA ∧ (t.bn u).sess.slotsB = (s.bn u).sess.slotsB ∧
        OnlyUnit u s t
    (∀ st, (s.bn u).power.dev = .off → ∃ t, exec (.powerUp u st) s = .next t ∧ booted t st) ∧
    (∀ st, (s.bn u).power.dev.resets = true → ∃ t, exec (.pinReset u st) s = .next t ∧ booted t st) ∧
    ((s.bn u).power.dev.resets = true → ∃ t, exec (.supplySupervisorReset u) s = .next t ∧ booted t (s.bn u).boot.straps) ∧
    ((s.bn u).power.dev.watched = true → ∃ t, exec (.watchdog u) s = .next t ∧ booted t (s.bn u).boot.straps) ∧
    ((s.bn u).boot.deadlineRun = true → (s.bn u).boot.outcome = 0 → (s.bn u).fullArmed = false →
      ∃ t, exec (.bootDeadline u) s = .next t ∧ booted t (s.bn u).boot.straps)) ∧
  (
  ∀ (s : State) (u : BnId), s.hasBn u = true → ∃ t, exec (.vaoRemoval u) s = .next t ∧
    (t.bn u).power.dev = .off ∧ (∀ w, (t.bn u).pw w = pantryDef w) ∧ (∀ o, (t.bn u).rd o = bnDef o) ∧
    (t.bn u).sess.slotsA = (s.bn u).sess.slotsA ∧ (t.bn u).sess.slotsB = (s.bn u).sess.slotsB ∧
    (t.bn u).boot.thermOtp = (s.bn u).boot.thermOtp ∧ OnlyUnit u s t)

/-- R374, R464, R543, R549, R472, R475: the boot goes on: with the downlink locked the counter and the time start at 0 and step 6 begins, with
the PLL locked on the recovered clock step 7 begins, and a port set that trains has its FV die's port trained. A domain whose power-good
arrives is ON; one whose limit passes on its second attempt is FAILED, and the unit counts it. -/
def Obligations.BootAndDomains : Prop :=
  (
  ∀ (s : State) (u : BnId), s.hasBn u = true → (s.bn u).power.dev = .boot → (s.bn u).boot.wakeSeq = false →
    ((s.bn u).boot.step = 5 → (s.bn u).domOn 156 = true → (s.bn u).power.xoOk = true →
      ∃ t, exec (.downlinkLock u) s = .next t ∧ (t.bn u).boot.step = 6 ∧ (t.bn u).time.counter = 0 ∧ (t.bn u).time.t = 0 ∧
        (t.bn u).power.pllRef = 1 ∧ (t.bn u).dnLock = true ∧ OnlyUnit u s t) ∧
    ((s.bn u).boot.step = 6 → (s.bn u).domOn 168 = true → (s.bn u).power.pllLock = false →
      ∃ t, exec (.pllLock u) s = .next t ∧ (t.bn u).power.pllLock = true ∧ (t.bn u).power.pllRef = 2 ∧ (t.bn u).power.ctrlIn = 2 ∧
        t.bn u.other = s.bn u.other) ∧
    (∀ d : Die, (s.bn u).boot.step = 7 → (s.bn u).boot.minimal = false → s.variant.hasFv d = true →
      (s.bn u).domOn (159 + d.val) = true → wbit ((s.bn u).recAt 5) (12 + d.val) = false → (s.fv d).powered = true →
      ∃ t, exec (.ligatureTraining u d true) s = .next t ∧ ((t.fv d).port u).trained = true ∧ t.bn u.other = s.bn u.other ∧
        ∀ e, e ≠ d → t.fv e = s.fv e)) ∧
  (
  (∀ (s : State) (u : BnId) (n : Fin 170), s.hasBn u = true → (s.bn u).power.dev = .ready → (s.bn u).job = none →
    ((s.bn u).dom n.val).waking ≠ 0 → n.val ≠ 169 →
    exec (.powerGood (.bn u n)) s =
      .next (s.setBn u ((s.bn u).setDom n.val ⟨.on, ((s.bn u).dom n.val).woken, false, 0, 0, 0⟩))) ∧
  (∀ (s : State) (d : Die) (n : Fin 135), s.variant.hasFv d = true → (s.fv d).powered = true → ((s.fv d).dom n.val).waking ≠ 0 →
    n.val < 64 →
    exec (.powerGood (.fv d n)) s = .next (s.setFv d ((s.fv d).setDom n.val ⟨.on, false, false, 0, 0, 0⟩))) ∧
  (∀ (s : State) (u : BnId) (n : Fin 170), s.hasBn u = true → (s.bn u).power.dev = .ready → (s.bn u).job = none →
    coreDom n.val = false → ((s.bn u).dom n.val).waking = 2 → ((s.bn u).dom n.val).power = .off →
    ∃ t, exec (.domainWakeFailure (.bn u n) .powerGood) s = .next t ∧ (t.bn u).dom n.val = ⟨.failed, false, true, 1, 0, 0⟩ ∧
      (∀ k, k ≠ n.val → (t.bn u).dom k = (s.bn u).dom k) ∧ (t.bn u).rd 0x1009 = satAdd ((s.bn u).rd 0x1009) 1 20 ∧
      (∀ o, o ≠ 0x1009 → (t.bn u).rd o = (s.bn u).rd o) ∧ OnlyUnit u s t) ∧
  (∀ (s : State) (d : Die) (n : Fin 135), s.variant.hasFv d = true → (s.fv d).powered = true → n.val < 64 →
    ((s.fv d).dom n.val).waking = 2 →
    exec (.domainWakeFailure (.fv d n) .powerGood) s =
      .next (s.setFv d ((s.fv d).setDom n.val ⟨.failed, false, true, 1, 0, 0⟩))))
/-- R141, R142, R490, R549: a reset of an FV die that has its supplies leaves it SAFE with cause RESET, every word at its reset value,
nothing waiting, and the next epoch (0 at power-up); its self-test then runs once; the holder writes back every retained word. -/
def Obligations.FvResetAndRestore : Prop :=
  (∀ (s : State) (d : Die) (pu : Bool), s.variant.hasFv d = true → (pu || (s.fv d).powered) = true →
    ∃ t, exec (.fvReset d pu) s = .next t ∧ (t.fv d).powered = true ∧ (t.fv d).regs = [] ∧ (t.fv d).safe = true ∧
      (t.fv d).safeCause = 0 ∧ (t.fv d).epoch = (if pu then 0 else ((s.fv d).epoch + 1) % 16) ∧ (t.fv d).reqs = [] ∧
      (t.fv d).replies = [] ∧ (t.fv d).staged = [] ∧ (t.fv d).armed = none ∧ (t.fv d).xc = (s.fv d).xc ∧
      (t.fv d).health = (s.fv d).health ∧ t.bnA = s.bnA ∧ t.bnB = s.bnB ∧ ∀ e, e ≠ d → t.fv e = s.fv e) ∧
  (∀ (s : State) (d : Die), s.variant.hasFv d = true → (s.fv d).powered = true → (s.fv d).testDone = false →
    (s.fv d).portA.refOn = true ∨ (s.fv d).portB.refOn = true →
    exec (.fvSelfTest d) s = .next (s.setFv d { s.fv d with testDone := true, test := (s.fv d).health })) ∧
  (∀ (s : State) (u : BnId) (d : Die), s.hasBn u = true → s.variant.hasFv d = true → (s.bn u).holds = true →
    (s.bn u).pantry.restore.any (fun p => p.1 == d) = false →
    ∃ t, exec (.fvRestore u d) s = .next t ∧
      (t.bn u).reqs = (s.bn u).reqs ++
        fvRetained.map (fun o => ⟨d, 1, o, (s.bn u).pw ((pantryFv d o).getD 0), .restore, (s.bn u).xc, none, 0, 0⟩) ∧
      (t.bn u).pantry.restore = (s.bn u).pantry.restore ++ [(d, fvRetained.length)] ∧ (t.bn u).regs = (s.bn u).regs ∧
      OnlyUnit u s t)

/-! ## The downlink and the time service -/

/-- R152, R153, R156, R157, R377: every downlink block opens the next crossing: the own count rises by one, device time by 25 600 tk and
the rate; the counter rises by one modulo 2^48, from 0 after an XRESET; a block without a valid sync header brings nothing else to
the time service, and no block touches the other unit or an FV die. -/
def Obligations.BlockBoundary : Prop :=
  ∀ (s : State) (u : BnId) (h : SyncHdr) (p : BitVec 64), s.hasBn u = true → (s.bn u).downOk = true →
    ∃ t, exec (.downlinkBlock u h p) s = .next t ∧ OnlyUnit u s t ∧
      (t.bn u).time.xc = (s.bn u).time.xc + 1 ∧
      (t.bn u).time.t = ((s.bn u).time.t + 25600 * 2 ^ 20 + (s.bn u).time.rate).toNat % (2 ^ 32 * 1024000000000 * 2 ^ 20) ∧
      (t.bn u).time.rate = (s.bn u).time.rate ∧
      (h ≠ .data → (t.bn u).time.counter = if (s.bn u).time.xreset then 0 else ((s.bn u).time.counter + 1) % 2 ^ 48) ∧
      (h = .data → crc8 p = p.toNat % 256 → bitsOf p.toNat 59 56 = 2 → ((s.bn u).power.dev = .ready ∨ (s.bn u).power.dev = .minimal) →
        (t.bn u).time.counter = 0 ∧ (t.bn u).time.xcSync = true)

/-- R157, R314, R70, R479: TRIG is taken in RUN and counted elsewhere; XRESET is taken in READY and MINIMAL and noted as ignored elsewhere;
CALPULSE goes on to the FV dies from the holder. WAKE_HOLD opens a window of 1 024 crossings and cancels an accepted entry that has not
begun; WAKE_HOLD_END closes the window once its last crossing has passed. -/
def Obligations.FastCodes : Prop :=
  (
  ∀ (s : State) (u : BnId), Hears s u →
    (∀ arg, (s.bn u).power.dev = .run → exec (.trig u arg) s =
      .next (s.setBn u { (s.bn u).wr 0x2419 (satAdd ((s.bn u).rd 0x2419) 1 20) with
        time := { (s.bn u).time with trigNow := some arg.toNat } })) ∧
    (∀ arg, (s.bn u).power.dev ≠ .run →
      exec (.trig u arg) s = .next (s.setBn u ((s.bn u).wr 0x241A (satAdd ((s.bn u).rd 0x241A) 1 20)))) ∧
    ((s.bn u).power.dev = .ready ∨ (s.bn u).power.dev = .minimal →
      exec (.xreset u) s = .next (s.setBn u { s.bn u with time := { (s.bn u).time with xreset := true } })) ∧
    ((s.bn u).power.dev = .run ∨ (s.bn u).power.dev = .boot →
      exec (.xreset u) s = .next (s.setBn u ((s.bn u).wr 0x1800 (setFld ((s.bn u).rd 0x1800) 15 15 1)))) ∧
    exec (.calpulse u) s =
      .next (if (s.bn u).holds then s.setBn u { s.bn u with time := { (s.bn u).time with calpNext := true } } else s)) ∧
  (
  (∀ (s : State) (u : BnId), Hears s u → exec (.wakeHold u) s =
    .next (s.setBn u { s.bn u with power := { (s.bn u).power with holdEnd := some ((s.bn u).xc + 1024) } })) ∧
  (∀ (s : State) (u : BnId) (e : Entry), s.hasBn u = true → (s.bn u).downOk = true → (s.bn u).power.dev ≠ .doze →
    (s.bn u).power.entry = some e →
    ∃ t, exec (.wakeHold u) s = .next t ∧ (t.bn u).power.entry = none ∧ (t.bn u).power.holdEnd = some ((s.bn u).xc + 1024) ∧
      (t.bn u).power.dev = (s.bn u).power.dev ∧ wbit ((t.bn u).rd 0x1000) 12 = true ∧
      (∀ o, o ≠ 0x1000 → (t.bn u).rd o = (s.bn u).rd o) ∧ OnlyUnit u s t) ∧
  (∀ (s : State) (u : BnId) (x : Nat), s.hasBn u = true → (s.bn u).power.holdEnd = some x → x < (s.bn u).xc →
    exec (.wakeHoldEnd u) s = .next (s.setBn u { s.bn u with power := { (s.bn u).power with holdEnd := none } })))

/-- R395, R396, R379, R380, R414: a LEASE that names this die renews the lease of the holder, is counted as refused where R396 refuses it, and
else grants it from the next crossing; one that names the other die, or with d outside 2-24, is counted and has no effect. RELEASE_ASK to
the holder starts a handover that ends eight crossings later; one that names the other die is counted and has no effect. -/
def Obligations.LeaseCodes : Prop :=
  (
  ∀ (s : State) (u : BnId) (arg : BitVec 8), Hears s u → s.variant ≠ .sln2 →
    let b := s.bn u
    let d := arg.toNat % 128
    let bad := arg.toNat / 128 ≠ u.bit ∨ d < 2 ∨ 24 < d
    let held := b.lease.role = .active ∧ b.now ≤ b.lease.exp
    let refused := b.lease.role = .none ∨ b.lease.role = .minimal ∨ b.lease.role = .failed ∨ b.lease.gaveUp = true ∨
      fld (b.rd 0x2002) 12 8 < d ∨ ∃ f, b.xl.usedNow = some f ∧ f.testBit 236 = true
    b.unit = u →
    (bad → exec (.lease u arg) s = .next (s.setBn u (b.wr 0x1C03 (satAdd (b.rd 0x1C03) 1 20)))) ∧
    (¬ bad → held → exec (.lease u arg) s =
      .next (s.setBn u { b.wr 0x2013 (satAdd (b.rd 0x2013) 1 20) with
        lease := { b.lease with exp := max b.lease.exp (b.now + 64 * d) } })) ∧
    (¬ bad → ¬ held → refused → exec (.lease u arg) s = .next (s.setBn u (b.wr 0x2014 (satAdd (b.rd 0x2014) 1 20)))) ∧
    (¬ bad → ¬ held → ¬ refused → exec (.lease u arg) s =
      .next (s.setBn u { b.wr 0x2013 (satAdd (b.rd 0x2013) 1 20) with
        lease := { b.lease with exp := b.now + 64 * d, next := some (.active, b.xc + 1) } }))) ∧
  (
  ∀ (s : State) (u : BnId) (arg : BitVec 8), Hears s u → s.variant ≠ .sln2 → (s.bn u).unit = u →
    (arg.toNat / 128 % 2 = u.bit → (s.bn u).holds = true → (s.bn u).lease.ho = none →
      exec (.releaseAsk u arg) s = .next (s.setBn u { s.bn u with
        lease := { (s.bn u).lease with ho := some ⟨(s.bn u).xc, (s.bn u).now + 8, false, 0, false, none⟩ } })) ∧
    (arg.toNat / 128 % 2 ≠ u.bit →
      exec (.releaseAsk u arg) s = .next (s.setBn u ((s.bn u).wr 0x1C03 (satAdd ((s.bn u).rd 0x1C03) 1 20)))))
/-- R407, R451, R452: an ACK names the newest sequence p not newer than REPLAY_NEWEST with the argument in [15:8] and FFh in [7:0]; ACK_SEQ
becomes p when p is newer by less than 2^19; otherwise, or with nothing stored, or in SLN-2, nothing changes. IMPRESS_GO arms a PROVED
bank whose tag it names at K + 64, and counts otherwise without another effect but GO_REFUSED for a FULL forme while acquisition is not
idle. -/
def Obligations.AckAndGoCodes : Prop :=
  (
  (∀ (s : State) (u : BnId) (arg : BitVec 8) (p : Word), Hears s u → s.variant ≠ .sln2 → (s.bn u).rd 0x2C1D ≠ 0 →
    p.toNat % 2 ^ 16 = arg.toNat * 256 + 255 → ((s.bn u).rd 0x2C1C - p).toNat < 2 ^ 16 →
    exec (.ack u arg) s =
      .next (if 0 < (p - (s.bn u).rd 0x2008).toNat ∧ (p - (s.bn u).rd 0x2008).toNat < 2 ^ 19 then s.setBn u ((s.bn u).wr 0x2008 p)
        else s)) ∧
  (∀ (s : State) (u : BnId) (arg : BitVec 8), Hears s u → s.variant = .sln2 ∨ (s.bn u).rd 0x2C1D = 0 →
    exec (.ack u arg) s = .next s)) ∧
  (
  ∀ (s : State) (u : BnId) (arg : BitVec 8), Hears s u →
    let b := s.bn u
    let named := b.stage.st = .proved ∧ arg.toNat % 64 = b.stage.goTag
    let full := b.stage.formeIn = true ∧ b.loader.cls = 0 ∧ b.acq.phase ≠ .idle
    let allowed := named ∧ ¬ full ∧ (b.stage.fvDies = [] ∨ b.holds = true)
    (allowed → ∃ t, exec (.impressGo u arg) s = .next t ∧ OnlyUnit u s t ∧
      (t.bn u).stage.st = .armed ∧ (t.bn u).stage.armedN = b.now + 64 ∧ (t.bn u).stage.armedTag = arg.toNat % 64 ∧
      (t.bn u).stage.words = b.stage.words ∧ (t.bn u).regs = b.regs) ∧
    (¬ allowed → ¬ (named ∧ full) →
      exec (.impressGo u arg) s = .next (s.setBn u (b.wr 0x080F (satAdd (b.rd 0x080F) 1 20)))) ∧
    (named → full → exec (.impressGo u arg) s =
      .next (s.setBn u { b.wr 0x080F (satAdd (b.rd 0x080F) 1 20) with loader := { b.loader with goRefused := true } })))
/-- R166, R168, R179: SYNC opens an exchange whose DELAY_REQ waits for crossing K + 4; a write of T4_Q3 with a valid quad evaluates a
complete exchange into OFFSET and DELAY, rounded toward zero, sets STEPPED when a step came between, and else clears RESULT_VALID. -/
def Obligations.SyncExchange : Prop :=
  (∀ (s : State) (u : BnId) (arg : BitVec 8), Hears s u →
    ∃ t, exec (.sync u arg) s = .next t ∧ OnlyUnit u s t ∧ (t.bn u).time.delayReq = some ((s.bn u).xc + 4) ∧
      (t.bn u).time.t1Mask = 0 ∧ (t.bn u).time.echo = none ∧ fld ((t.bn u).rd 0x180F) 19 12 = arg.toNat ∧
      wbit ((t.bn u).rd 0x180F) 11 = true ∧ wbit ((t.bn u).rd 0x180F) 10 = false ∧
      (∀ o, o ≠ 0x180F → ¬ (0x1814 ≤ o ∧ o < 0x1818) → (t.bn u).rd o = (s.bn u).rd o)) ∧
  (∀ (s : State) (u : BnId) (v : Word), Works s u →
    let b := s.bn u
    let b1 := b.wr 0x181F v
    let w := b.rd 0x180F
    let t (p : Nat) : Int := b1.rdQuad p
    (quadOk (b.rd 0x181D) (b.rd 0x181E) v = false →
      exec (.exchangeEvaluation u v) s = .next (s.setBn u { b with last := .range })) ∧
    (quadOk (b.rd 0x181D) (b.rd 0x181E) v = true → ¬ (b.time.t1Mask = 15 ∧ wbit w 11 = true ∧ wbit w 10 = true) →
      exec (.exchangeEvaluation u v) s = .next (s.setBn u { b1.wr 0x180F (setFld w 9 9 0) with last := .ok })) ∧
    (quadOk (b.rd 0x181D) (b.rd 0x181E) v = true → b.time.t1Mask = 15 ∧ wbit w 11 = true ∧ wbit w 10 = true → b.time.stepIn = false →
      exec (.exchangeEvaluation u v) s = .next (s.setBn u {
        ((b1.wrDbl 0x1820 (ofInt (((t 0x1814 - t 0x1810) - (t 0x181C - t 0x1818) - (b.rd 0x180C).toInt).tdiv 2) 40)).wrDbl 0x1822
          (ofInt (((t 0x1814 - t 0x1810) + (t 0x181C - t 0x1818)).tdiv 2) 40)).wr 0x180F (setFld w 9 9 1) with last := .ok })) ∧
    (quadOk (b.rd 0x181D) (b.rd 0x181E) v = true → b.time.t1Mask = 15 ∧ wbit w 11 = true ∧ wbit w 10 = true → b.time.stepIn = true →
      exec (.exchangeEvaluation u v) s = .next (s.setBn u { b1.wr 0x180F (setFld w 9 8 1) with last := .ok })))

/-- R161, R464, R477, R162, R163, R176, R177: a lost downlink puts the time service into holdover on the XO, with the step state as it was,
and drops a pending start; in holdover the crossings go on; the first boundary after the relock makes the step state UNSET with cause
DOWNLINK, and device time is not reset. At the crossing it names a step sets device time and the state SET, and a rate comes into force;
SNAP loads counter and time at one boundary. -/
def Obligations.TimeAndHoldover : Prop :=
  (
  ∀ (s : State) (u : BnId), s.hasBn u = true → (s.bn u).power.dev = .ready ∨ (s.bn u).power.dev = .run → (s.bn u).power.clkWait = false →
    let b := s.bn u
    (b.dnUsable = false → b.time.holdover = false → b.acq.phase ≠ .startPend →
      exec (.downlinkLockLoss u) s =
        .next (s.setBn u { b with time := { b.time with holdover := true }, power := { b.power with pllRef := 1 } })) ∧
    (b.dnUsable = false → b.time.holdover = false → b.acq.phase = .startPend →
      ∃ t, exec (.downlinkLockLoss u) s = .next t ∧ (t.bn u).time = { b.time with holdover := true } ∧ (t.bn u).acq.phase = .idle ∧
        (t.bn u).power.pllRef = 1 ∧ wbit ((t.bn u).rd 0x2401) 2 = true ∧ OnlyUnit u s t) ∧
    (b.time.holdover = true →
      ∃ t, exec (.holdoverCrossing u) s = .next t ∧ OnlyUnit u s t ∧ (t.bn u).time.xc = b.time.xc + 1 ∧
        (t.bn u).time.t = (b.time.t + 25600 * 2 ^ 20 + b.time.rate).toNat % (2 ^ 32 * 1024000000000 * 2 ^ 20) ∧
        (t.bn u).time.holdover = true ∧ (b.power.dev = .run → (t.bn u).power.dev = .ready ∧ (t.bn u).acq.phase = .idle)) ∧
    (b.time.holdover = true → b.dnUsable = true →
      exec (.downlinkRelock u) s = .next (s.setBn u { b with
        time := { b.time with step := 0, unsetCause := 3, stepPend := none, ratePend := none, xcSync := false, holdover := false }
        power := { b.power with pllRef := 2 }
        therm := { b.therm with win := [], rate := [], hiRun := [], loRun := [], alarms := [] } }))) ∧
  (
  ∀ (s : State) (u : BnId), s.hasBn u = true →
    let b := s.bn u
    (∀ tk, b.time.stepPend = some (b.now, tk) → b.hkc.conv = none →
      ∃ t, exec (.timeStepEffect u) s = .next t ∧ OnlyUnit u s t ∧ (t.bn u).time.t = tk * 2 ^ 20 ∧ (t.bn u).time.step = 2 ∧
        (t.bn u).time.stepPend = none ∧ (t.bn u).time.counter = b.time.counter ∧ (t.bn u).time.rate = b.time.rate ∧
        (t.bn u).anchors.timeEvent = some b.now ∧ (t.bn u).rd 0x1825 = wof b.now ∧
        (∀ o, o ≠ 0x1825 → (t.bn u).rd o = b.rd o)) ∧
    (∀ r, b.time.ratePend = some (b.now, r) →
      ∃ t, exec (.timeRateEffect u) s = .next t ∧ OnlyUnit u s t ∧ (t.bn u).time = { b.time with rate := r, ratePend := none } ∧
        (t.bn u).pw 8 = (rateWords r).1 ∧ (t.bn u).pw 9 = (rateWords r).2 ∧ (∀ w, w ≠ 8 → w ≠ 9 → (t.bn u).pw w = b.pw w) ∧
        (t.bn u).anchors.timeEvent = some b.now ∧ (∀ o, o ≠ 0x180B → (t.bn u).rd o = b.rd o)) ∧
    (b.executes = true →
      exec (.snap u false) s = .next (s.setBn u { b.wr 0x1801 (setFld (b.rd 0x1801) 19 19 1) with last := .ok })) ∧
    (b.power.dev.crosses = true → wbit (b.rd 0x1801) 19 = true →
      ∃ t, exec (.snap u true) s = .next t ∧ OnlyUnit u s t ∧ wbit ((t.bn u).rd 0x1801) 19 = false ∧
        (t.bn u).rdXc 0x1802 = b.now % 2 ^ 48 ∧ (t.bn u).rdQuad 0x1805 = b.time.t / 2 ^ 20 % (2 ^ 32 * 1024000000000) ∧
        (t.bn u).time = b.time ∧ ∀ o, ¬ (0x1801 ≤ o ∧ o < 0x1809) → (t.bn u).rd o = b.rd o))
/-! ## Command packets -/

/-- R428, R429, R377, R430, R431, R294: the screen of a complete packet: the first row of R429 that applies decides, counted where the table
says; a packet that passes joins the waiting packets. An open packet whose header is 256 crossings old is answered with TIMEOUT. The reply
of an executed packet is one mark: code 0Bh, the count of its data words and the status in w0, tag and opcode in w1, the data words after;
it enters queue 34 when nothing is held before it and the queue admits it, and is held otherwise. Nothing of the unit but its words, its
galley and its replies changes. -/
def Obligations.PacketsScreenedAndAnswered : Prop :=
  (
  (∀ (s : State) (u : BnId) (p : Pkt) (more : List Pkt), s.hasBn u = true → (s.bn u).power.dev.takesPackets = true →
    (s.bn u).power.clkWait = false → (s.bn u).arrived = p :: more →
    let b := { s.bn u with arrived := more }
    let op := fld p.header 19 12
    let l := fld p.header 11 6
    let tag : Tag := BitVec.ofNat 6 (fld p.header 5 0)
    let badCrc := fld p.check 15 0 ≠ crc16 (p.header :: p.params)
    let full := 4 ≤ (s.bn u).waiting.length
    let c := Instr.packetScreen u
    (badCrc → Answers s u c tag op (b.wr 0x40A (satAdd (b.rd 0x40A) 1 20)) .check []) ∧
    (¬ badCrc → full → Answers s u c tag op (b.wr 0x40C (satAdd (b.rd 0x40C) 1 20)) .busy []) ∧
    (¬ badCrc → ¬ full → 0x24 < op → Answers s u c tag op b .badOpcode []) ∧
    (¬ badCrc → ¬ full → op ≤ 0x24 → lenOk op l = false → Answers s u c tag op b .badLength []) ∧
    (¬ badCrc → ¬ full → op ≤ 0x24 → lenOk op l = true → b.sess.level.code < opLevel op → Answers s u c tag op b .denied []) ∧
    (¬ badCrc → ¬ full → op ≤ 0x24 → lenOk op l = true → opLevel op ≤ b.sess.level.code →
      exec c s = .next (s.setBn u { b.wr 0x409 (satAdd (b.rd 0x409) 1 20) with waiting := b.waiting ++ [p] }))) ∧
  (∀ (s : State) (u : BnId) (p : OpenPkt) (h : Word) (t : List Word), s.hasBn u = true → (s.bn u).power.dev.takesPackets = true →
    (s.bn u).power.clkWait = false → (s.bn u).openPkt = some p → p.words = h :: t → p.since + 256 ≤ (s.bn u).xc →
    let b := { s.bn u with openPkt := none }
    Answers s u (.packetTimeout u) (BitVec.ofNat 6 (fld h 5 0)) (fld h 19 12) (b.wr 0x40B (satAdd (b.rd 0x40B) 1 20)) .timeout [])) ∧
  (
  ∀ (s : State) (u : BnId) (tag : Tag) (ws : List Word) (rest : List Pkt), Runs s u 0x01 tag ws rest → ws.length ≤ 15 →
    let mark := wof (7 * 2 ^ 17 + 0x0B * 2 ^ 12 + ws.length * 2 ^ 8) :: wof (tag.toNat * 2 ^ 14 + 2 ^ 6) :: ws
    let b := { taken s u rest with replies := [(mark, false)], last := .ok }
    ((s.bn u).replies = [] → ∀ b1, b.qItem 34 (toDoubles mark) = some b1 →
      exec (.echo u tag ws) s = .next (s.setBn u { b1 with replies := [], marksIn := b1.marksIn + 1 })) ∧
    ((s.bn u).replies = [] → b.qItem 34 (toDoubles mark) = none → exec (.echo u tag ws) s = .next (s.setBn u b)) ∧
    ∃ t, exec (.echo u tag ws) s = .next t ∧ OnlyUnit u s t ∧ (t.bn u).waiting = rest ∧
      (t.bn u).time = b.time ∧ (t.bn u).lease = b.lease ∧ (t.bn u).sess = b.sess ∧ (t.bn u).power.dev = b.power.dev ∧ (t.bn u).power.doms = b.power.doms ∧
      (t.bn u).acq = b.acq ∧ (t.bn u).stage = b.stage ∧ (t.bn u).arr = b.arr ∧ (t.bn u).hkc = b.hkc ∧ (t.bn u).pantry = b.pantry)
/-- R430, R437-R440: NOP does nothing and is not answered; ECHO returns its words; OPEN_SESSION opens the level whose key matches,
counts a key that matches no slot, locks the level out for 64 s at the third, and is refused during the lockout; level OPEN asked
for returns to OPEN (log entry 42); CLOSE_SESSION returns to OPEN. -/
def Obligations.SessionPackets : Prop :=
  ∀ (s : State) (u : BnId) (tag : Tag) (rest : List Pkt),
    let b := taken s u rest
    (Runs s u 0x00 tag [] rest → exec (.nop u tag) s = .next (s.setBn u b)) ∧
    (∀ ws, Runs s u 0x01 tag ws rest → Answers s u (.echo u tag ws) tag 0x01 b .ok ws) ∧
    (Runs s u 0x03 tag [] rest →
      Answers s u (.closeSession u tag) tag 0x03 { b with sess := { b.sess with level := .open, slot := 0 } } .ok []) ∧
    ∀ (d0 : Word) (key : List Word), Runs s u 0x02 tag (d0 :: key) rest →
      let c := Instr.openSession u tag d0 key
      (fld d0 1 0 = 0 → Answers s u c tag 0x02 { b with sess := { b.sess with level := .open, slot := 0 } } .ok [0]) ∧
      (fld d0 1 0 = 3 → Answers s u c tag 0x02 b .range []) ∧
      ∀ lvl : KeyLevel, fld d0 1 0 = (levelIx lvl).val + 1 →
        let lo := 2 * (levelIx lvl).val
        let n := fld (b.pw 0x000D) (lo + 1) lo
        let count (k : Nat) : Bn := b.setPw 0x000D (setFld (b.pw 0x000D) (lo + 1) lo k)
        (b.sess.locked lvl = true → Answers s u c tag 0x02 b .lockedOut []) ∧
        (∀ i, b.sess.locked lvl = false → b.keySlot lvl key = some i →
          Answers s u c tag 0x02 { count 0 with sess := { b.sess with level := keyOpens lvl, slot := i } } .ok
            [wof (((levelIx lvl).val + 1) * 2 ^ 18 + i)]) ∧
        (b.sess.locked lvl = false → b.keySlot lvl key = none → n < 2 → Answers s u c tag 0x02 (count (n + 1)) .denied []) ∧
        (b.sess.locked lvl = false → b.keySlot lvl key = none → 2 ≤ n →
          Answers s u c tag 0x02
            (match lvl with
            | .operate => { count 3 with sess := { b.sess with lockA := true } }.setPw 0x000E (setFld (b.pw 0x000E) 6 0 64)
            | .service => { count 3 with sess := { b.sess with lockB := true } }.setPw 0x000E (setFld (b.pw 0x000E) 13 7 64)) .denied [])

/-- R438, R441, R445, R459: the slot that a key opens holds the SHA-256 digest of the key, is programmed and not revoked, and is the first
such. KEY_SET programs an unprogrammed slot and refuses a programmed one; a revoke marks a programmed slot, but not the last one of key B;
OTP_READ shows words of the OTP; a patch whose CRC holds is loaded; CLEAR empties its entry. -/
def Obligations.KeysAndPatches : Prop :=
  (
  ∀ (b : Bn) (lvl : KeyLevel) (key : List Word),
    let good (i : Fin 8) : Prop := (b.sess.slotAt lvl i).programmed = true ∧ (b.sess.slotAt lvl i).revoked = false ∧
      slotWords b.unit lvl i.val (b.sess.slotAt lvl i) = sealWords (sha256 (keyBits128 key) 128)
    (∀ n, b.keySlot lvl key = some n ↔ ∃ i : Fin 8, i.val = n ∧ good i ∧ ∀ j : Fin 8, j < i → ¬ good j) ∧
    (b.keySlot lvl key = none ↔ ∀ i, ¬ good i)) ∧
  (
  ∀ (s : State) (u : BnId) (tag : Tag) (rest : List Pkt),
    let b := taken s u rest
    (∀ (lvl : KeyLevel) (i : Fin 8) (dg : List Word), Runs s u 0x22 tag (wof ((levelIx lvl).val * 2 ^ 8 + i.val) :: dg) rest →
      let x := b.sess.slotAt lvl i
      let c := Instr.keySet u tag lvl i dg
      (x.programmed = true → Answers s u c tag 0x22 b .readOnly []) ∧
      (x.programmed = false → Answers s u c tag 0x22 { b with
        sess := b.sess.putSlot lvl i ⟨true, x.revoked, setFld (dg.headD 0) 19 16 0 :: dg.drop 1⟩ } .ok [])) ∧
    (∀ (lvl : KeyLevel) (i : Fin 8) (dg : List Word), Runs s u 0x22 tag (wof (2 ^ 19 + (levelIx lvl).val * 2 ^ 8 + i.val) :: dg) rest →
      let x := b.sess.slotAt lvl i
      let good (k : Fin 8) : Prop := (b.sess.slotAt .service k).programmed = true ∧ (b.sess.slotAt .service k).revoked = false
      let lastB := lvl = .service ∧ x.revoked = false ∧ ∀ k, good k → k = i
      let c := Instr.revoke u tag lvl i dg
      (x.programmed = false → Answers s u c tag 0x22 b .range []) ∧
      (x.programmed = true → lastB → Answers s u c tag 0x22 b .denied []) ∧
      (x.programmed = true → ¬ lastB → Answers s u c tag 0x22 { b with sess := b.sess.putSlot lvl i { x with revoked := true } } .ok [])) ∧
    (∀ d0 d1, Runs s u 0x24 tag [d0, d1] rest → 0 < fld d1 3 0 →
      Answers s u (.otpRead u tag d0 d1) tag 0x24 b .ok ((List.range (fld d1 3 0)).map (fun i => b.otpRd (fld d0 11 0 + i)))) ∧
    (∀ (e : Fin 64) (ws : List Word), Runs s u 0x23 tag (wof e.val :: ws) rest →
      let c := Instr.patchLoad u tag e ws
      let good := fld (ws.getD 9 0) 15 0 = crc16 (ws.take 9)
      (good → Answers s u c tag 0x23 { b with patches := mins e.val (ws.take 9) (mdel b.patches e.val) } .ok []) ∧
      (¬ good → Answers s u c tag 0x23 b .check [])) ∧
    (∀ (e : Fin 64) (ws : List Word), Runs s u 0x23 tag (wof (2 ^ 19 + e.val) :: ws) rest →
      Answers s u (.patchClear u tag e ws) tag 0x23 { b with patches := mdel b.patches e.val } .ok []))
/-! ## Words -/

namespace Sys2Proof.Claims

/-- Words of a BN die that hold one plain RW field, with its bits (R332, R539, R210). -/
def plainWords : List (Nat × Nat) :=
  [(0x2402, 0xFFFFF), (0x2403, 0xFFFFF), (0x2404, 0xFF), (0x3402, 0xFF), (0x340A, 0x3F), (0x3C00, 0x8007F)]

/-- The parameter address of a word of the unit itself (R17, R432). -/
def own (off : Nat) : Word := wof (6 * 2 ^ 17 + off)

end Sys2Proof.Claims

/-- R18, R19, R433, R21, R436: a word written while its block is on and healthy takes the written value in its field and keeps its reserved
bits, by REGISTER_WRITE and by WRITE, whose reply counts it. A write that the map refuses changes no word: a reserved offset BAD_ADDRESS,
a read-only word READ_ONLY, an ST word DENIED, a value out of range RANGE; a WRITE replies with that status and 0 words. -/
def Obligations.RegisterWrites : Prop :=
  (
  ∀ (s : State) (u : BnId) (off m : Nat) (v : Word), (off, m) ∈ plainWords →
    (s.bn u).asleep off = false → (s.bn u).failedBlock off = false →
    let w := ((s.bn u).rd off &&& ~~~ wof m) ||| (v &&& wof m)
    (Works s u → exec (.registerWrite u false (own off) v) s =
      .next ({ s with freeCtr := s.freeCtr + 512 }.setBn u { (s.bn u).wr off w with last := .ok })) ∧
    (∀ tag rest, Runs s u 0x05 tag [own off, v] rest → ∃ t, exec (.write u tag (own off) [v]) s = .next t ∧ OnlyUnit u s t ∧
      t.bn u = ((taken s u rest).wr off w).reply tag.toNat 0x05 .ok [1])) ∧
  (
  ∀ (s : State) (u : BnId) (off : Nat) (v : Word) (st : Status),
    (off, v, st) ∈ [(0x040D, 1, Status.badAddress), (0x0409, 1, .readOnly), (0x240C, 1, .denied), (0x2002, 0x802, .denied),
      (0x0401, 0, .range), (0x0401, 3601, .range), (0x0C02, 3601, .range)] →
    (s.bn u).asleep off = false → (s.bn u).failedBlock off = false →
    (Works s u → exec (.registerWrite u false (own off) v) s =
      .next ({ s with freeCtr := s.freeCtr + 512 }.setBn u { s.bn u with last := st })) ∧
    (∀ tag rest, Runs s u 0x05 tag [own off, v] rest → ∃ t, exec (.write u tag (own off) [v]) s = .next t ∧ OnlyUnit u s t ∧
      t.bn u = (taken s u rest).reply tag.toNat 0x05 st [0]))
/-- R432, R436, R437: READ shows a plain word at level OPERATE and above, and is DENIED at OPEN; a count of 0 is RANGE; a target that is
absent is BAD_ADDRESS; an FV word is asked of its die. -/
def Obligations.Reads : Prop :=
  ∀ (s : State) (u : BnId) (tag : Tag) (rest : List Pkt),
    let b := taken s u rest
    (∀ off m, (off, m) ∈ plainWords → b.asleep off = false → b.failedBlock off = false → Runs s u 0x04 tag [own off, 1] rest →
      ∃ t, exec (.read u tag (own off) 1) s = .next t ∧ OnlyUnit u s t ∧
        t.bn u = if b.sess.level = .open then b.reply tag.toNat 0x04 .denied [] else b.reply tag.toNat 0x04 .ok [b.rd off]) ∧
    (∀ d0 d1, fld d1 3 0 = 0 → Runs s u 0x04 tag [d0, d1] rest → Answers s u (.read u tag d0 d1) tag 0x04 b .range []) ∧
    (∀ d0 d1, fld d1 3 0 ≠ 0 → fld d0 19 17 = 7 ∨ (∀ d : Die, d.val = fld d0 19 17 → s.variant.hasFv d = false) →
      fld d0 19 17 ≠ 6 → Runs s u 0x04 tag [d0, d1] rest → Answers s u (.read u tag d0 d1) tag 0x04 b .badAddress []) ∧
    (∀ (d : Die) (d0 d1 : Word), fld d1 3 0 ≠ 0 → d.val = fld d0 19 17 → s.variant.hasFv d = true → b.sess.level ≠ .open →
      Runs s u 0x04 tag [d0, d1] rest →
      exec (.read u tag d0 d1) s = .next (s.setBn u { b with
        job := some (.read tag.toNat d (fld d0 16 0) (fld d1 3 0) [] false)
        reqs := b.reqs ++ [⟨d, 0, fld d0 16 0, 0, .job, b.xc, none, 0, 0⟩] }))

/-- R204, R447, R449, R454: a staged word waits in the bank, which is then STAGING, and the live word stays; an ARMED bank is BUSY;
a table word of the window goes into the staged table bank at once, unless the window shows the live bank. -/
def Obligations.Staging : Prop :=
  ∀ (s : State) (u : BnId) (tag : Tag) (rest : List Pkt) (v : Word),
    let b := taken s u rest
    (∀ off m, (off, m) ∈ plainWords → b.failedBlock off = false → Runs s u 0x06 tag [own off, v] rest →
      (b.stage.st ≠ .armed → ∃ t, exec (.stage u tag (own off) [v]) s = .next t ∧ OnlyUnit u s t ∧
        t.bn u = ({ b with stage := { b.stage with st := .staging, words := b.stage.words.filter (fun p => p.1 != off) ++
          [(off, (b.stagedRd off &&& ~~~ wof m) ||| (v &&& wof m))] } } : Bn).reply tag.toNat 0x06 .ok [1]) ∧
      (b.stage.st = .armed → ∃ t, exec (.stage u tag (own off) [v]) s = .next t ∧ OnlyUnit u s t ∧
        t.bn u = b.reply tag.toNat 0x06 .busy [0])) ∧
    (∀ i : Fin 2048, Works s u →
      let n := fld ((s.bn u).rd 0x3C00) 6 0
      let live := wbit ((s.bn u).rd 0x3C00) 19
      ((s.bn u).domOn n = true → live = true ∨ 2040 ≤ i.val →
        exec (.windowTableWrite u false i v) s = .next (s.setBn u { s.bn u with last := .readOnly })) ∧
      ((s.bn u).domOn n = true → live = false → i.val < 2040 → (s.bn u).stage.st ≠ .armed → ((s.bn u).comp n).copyTbl = none →
        ∃ t, exec (.windowTableWrite u false i v) s = .next t ∧ OnlyUnit u s t ∧ (t.bn u).stage.st = .staging ∧
          ((t.bn u).comp n).tblStaged = mput ((s.bn u).comp n).tblStaged i.val v 0 ∧
          ((t.bn u).comp n).tblLive = ((s.bn u).comp n).tblLive ∧ ((t.bn u).comp n).tblDirty = true ∧ (t.bn u).regs = (s.bn u).regs ∧
          (t.bn u).last = .ok))

/-- R309, R261, R465, R493: what START and STOP do, by the table of R309: with S and E from ACQ_AT. A write of CLK_SEL is DENIED outside
READY; code 11b is out of range; in READY another source is taken and the switch counted. -/
def Obligations.StartStopAndClockSelect : Prop :=
  (
  ∀ (s : State) (u : BnId), Works s u →
    let b := s.bn u
    let at_ := b.rdXc 0x2402
    let late := at_ < b.now + 64 ∨ b.now + 2 ^ 20 < at_
    let refused (c : Instr) (st : Status) : Prop := exec c s = .next (s.setBn u { b with last := st })
    (b.acq.phase ≠ .idle → refused (.start u) .busy) ∧
    (b.acq.phase = .idle → b.power.dev ≠ .ready ∨ b.loader.live = false → refused (.start u) .denied) ∧
    (b.acq.phase = .idle → b.power.dev = .ready → b.loader.live = true → b.fullArmed = true → refused (.start u) .busy) ∧
    (b.acq.phase = .idle → b.power.dev = .ready → b.loader.live = true → b.fullArmed = false → late → refused (.start u) .range) ∧
    (b.acq.phase = .idle → b.power.dev = .ready → b.loader.live = true → b.fullArmed = false → ¬ late →
      ∃ t, exec (.start u) s = .next t ∧ OnlyUnit u s t ∧ (t.bn u).acq = { b.acq with phase := .startPend, s := at_ } ∧
        (t.bn u).rdXc 0x2405 = at_ ∧ (∀ o, ¬ (0x2405 ≤ o ∧ o < 0x2408) → (t.bn u).rd o = b.rd o) ∧ (t.bn u).power = b.power ∧
        (t.bn u).time = b.time ∧ (t.bn u).stage.words = b.stage.words ∧ (t.bn u).last = .ok) ∧
    (b.acq.phase = .idle → refused (.stop u) .denied) ∧
    (b.acq.phase = .stopPend ∨ b.acq.phase = .drain → refused (.stop u) .busy) ∧
    (b.acq.phase = .startPend ∨ b.acq.phase = .run → at_ ≤ b.acq.s ∨ late → refused (.stop u) .range) ∧
    (b.acq.phase = .startPend ∨ b.acq.phase = .run → ¬ (at_ ≤ b.acq.s ∨ late) →
      exec (.stop u) s = .next (s.setBn u { b.wrXc 0x2408 at_ with acq := { b.acq with phase := .stopPend, e := at_ }, last := .ok }))) ∧
  (
  ∀ (s : State) (u : BnId), Works s u →
    let b := s.bn u
    let fresh : State := { s with freeCtr := s.freeCtr + 512 }
    (exec (.clkSel u 3) s = .next (fresh.setBn u { b with last := .range })) ∧
    (∀ src : BitVec 2, src ≠ 3 → b.power.dev ≠ .ready → exec (.clkSel u src) s = .next (fresh.setBn u { b with last := .denied })) ∧
    (∀ src : BitVec 2, src ≠ 3 → b.power.dev = .ready → b.power.ctrlIn ≠ src.toNat →
      ∃ t, exec (.clkSel u src) s = .next t ∧ OnlyUnit u s t ∧ (t.bn u).power = { b.power with ctrlIn := src.toNat } ∧
        fld ((t.bn u).rd 0x1401) 19 18 = src.toNat ∧ (t.bn u).rd 0x1406 = satAdd (b.rd 0x1406) 1 20 ∧
        (∀ o, o ≠ 0x1401 → o ≠ 0x1406 → (t.bn u).rd o = b.rd o) ∧ (t.bn u).last = .ok))
/-! ## The staged bank, the forme, the galley by packet -/

/-- R449, R295, R323, R400: PROOF is BUSY while an impress is armed and NOTHING_STAGED on an empty bank without a forme; else it evaluates the
rules, and the bank becomes PROVED with the tag as GO_TAG exactly when none fails; a bank that fails goes back to STAGING with PROOF_FAIL;
the reply carries PASS and the number of failing rules. R442: it is DENIED in MINIMAL. Which rules a bank without a forme fails: 50h when
the quotas and the leaked cells pass the galley, 61h when TRIG_LAT and DENSE_PRE do not fit the ring, 64h on a bad cut, 80h when the lease
guard is too long. -/
def Obligations.Proof : Prop :=
  (
  ∀ (s : State) (u : BnId) (tag : Tag) (d0 : Word) (rest : List Pkt), Runs s u 0x07 tag [d0] rest →
    let b := taken s u rest
    let s1 := s.setBn u b
    let c := Instr.proof u tag d0
    ∃ (x : Bn) (st : Status) (data : List Word), Answers s u c tag 0x07 x st data ∧ x.regs = b.regs ∧ x.time = b.time ∧
      x.lease = b.lease ∧ x.acq = b.acq ∧ x.stage.words = b.stage.words ∧ x.gal = b.gal ∧
      (b.power.dev = .minimal → st = .denied ∧ x.stage.st = b.stage.st) ∧
      (b.power.dev ≠ .minimal → b.stage.st = .armed → st = .busy ∧ x.stage.st = .armed) ∧
      (b.power.dev ≠ .minimal → b.stage.st = .empty → b.loader.st = .empty → st = .nothingStaged ∧ x.stage.st = .empty) ∧
      (b.power.dev ≠ .minimal → b.stage.st ≠ .armed → ¬ (b.stage.st = .empty ∧ b.loader.st = .empty) →
        (st = .ok ∧ x.stage.st = .proved ∧ x.stage.goTag = fld d0 5 0 ∧ data.length = 15 ∧ wbit (data.getD 0 0) 19 = true) ∨
        (st = .proofFail ∧ x.stage.st = .staging ∧ x.stage.goTag = b.stage.goTag ∧ data.length = 15 ∧
          wbit (data.getD 0 0) 19 = false)) ∧
      (b.power.dev ≠ .minimal → b.stage.st = .staging → b.loader.st = .empty → b.stage.fvDies = [] → b.twinRule s.variant = false →
        (st = .ok ↔ s1.fvFails = [] ∧ b.galFails = [] ∧ b.acqFails = [] ∧ b.sheetFails = [] ∧ b.leaseFails s.variant = []))) ∧
  (
  ∀ (b : Bn) (v : Variant),
    let w (o : Nat) : Nat := (b.stagedRd o).toNat
    (0x50 ∈ b.galFails ↔ 196608 < (List.range 64).foldl (fun a q => a + fld (b.stagedRd (0x2C40 + 4 * q)) 17 0) 0 + b.gal.leaked) ∧
    (0x61 ∈ b.acqFails ↔ w 0x2410 < w 0x240C + w 0x240D ∨ 1024 < w 0x2410 ∨ w 0x2410 = 0) ∧
    (0x64 ∈ b.acqFails ↔ w 0x2417 < w 0x2414 ∨ w 0x2415 = 0 ∨ w 0x2416 = 0) ∧
    (0x80 ∈ b.leaseFails v ↔ v ≠ .sln2 ∧ 2048 < 64 * fld (b.stagedRd 0x2002) 12 8 + w 0x2003 + 256))
/-- R451, R453, R261, R442: IMPRESS by the table of R451; what it arms; DISCARD empties the bank and the loader, but not within 40
crossings of an armed impress. -/
def Obligations.ImpressAndDiscard : Prop :=
  ∀ (s : State) (u : BnId) (tag : Tag) (rest : List Pkt),
    let b := taken s u rest
    (∀ d0 d1 d2 d3, Runs s u 0x08 tag [d0, d1, d2, d3] rest →
      let c := Instr.impress u tag d0 d1 d2 d3
      let n := xcOf d1 d2 d3
      let full := b.stage.formeIn = true ∧ b.loader.cls = 0
      let inTime := b.now + 64 ≤ n ∧ n ≤ b.now + 2 ^ 20
      let go := b.power.dev ≠ .minimal ∧ b.stage.st = .proved ∧ inTime ∧ ¬ (full ∧ b.acq.phase ≠ .idle) ∧
        (b.stage.fvDies = [] ∨ b.holds = true)
      (b.power.dev = .minimal → Answers s u c tag 0x08 b .denied []) ∧
      (b.power.dev ≠ .minimal → b.stage.st = .armed → Answers s u c tag 0x08 b .busy []) ∧
      (b.power.dev ≠ .minimal → b.stage.st = .empty → b.loader.st = .empty → Answers s u c tag 0x08 b .nothingStaged []) ∧
      (b.power.dev ≠ .minimal → b.stage.st = .staging ∨ (b.stage.st = .empty ∧ b.loader.st ≠ .empty) →
        Answers s u c tag 0x08 b .proofFail []) ∧
      (b.power.dev ≠ .minimal → b.stage.st = .proved → ¬ inTime → Answers s u c tag 0x08 b .range []) ∧
      (b.power.dev ≠ .minimal → b.stage.st = .proved → inTime → full → b.acq.phase ≠ .idle → Answers s u c tag 0x08 b .denied []) ∧
      (b.power.dev ≠ .minimal → b.stage.st = .proved → inTime → ¬ (full ∧ b.acq.phase ≠ .idle) → b.stage.fvDies ≠ [] →
        b.holds = false → Answers s u c tag 0x08 b .notActive []) ∧
      (go → ∃ x, Answers s u c tag 0x08 x .ok [] ∧ x.stage.st = .armed ∧ x.stage.armedN = n ∧ x.stage.armedTag = fld d0 5 0 ∧
        x.stage.words = b.stage.words ∧ x.regs = b.regs ∧ x.acq = b.acq ∧ x.time = b.time ∧ x.gal = b.gal)) ∧
    (Runs s u 0x09 tag [] rest →
      let c := Instr.discard u tag
      (b.stage.st = .armed → b.stage.armedN < b.now + 40 → Answers s u c tag 0x09 b .busy []) ∧
      (¬ (b.stage.st = .armed ∧ b.stage.armedN < b.now + 40) →
        ∃ x, Answers s u c tag 0x09 x (if b.stage.fvDies ≠ [] ∧ b.holds = false then .notActive else .ok) [] ∧ x.stage.st = .empty ∧
          x.stage.words = [] ∧ x.stage.fvDies = [] ∧ x.stage.restoreArmed = false ∧ x.loader.st = .empty ∧ x.loader.img = [] ∧
          x.acq = b.acq ∧ x.time = b.time ∧ x.lease = b.lease ∧
          (b.holds = false → x.reqs = b.reqs)))

/-- R252, R254, R255: a forme is loaded at LOAD_NEXT only: by FORME_LOAD and by LOAD_DATA; offset 0 starts again; a loaded or proved forme's
CRC and seal are shown by FORME_VERIFY; LOAD_RESET discards the load. -/
def Obligations.FormeLoading : Prop :=
  ∀ (s : State) (u : BnId) (tag : Tag) (rest : List Pkt),
    let b := taken s u rest
    (∀ (d0 : Word) (ws : List Word), Runs s u 0x0A tag (d0 :: ws) rest →
      let c := Instr.formeLoad u tag d0 ws
      let len := b.loader.img.length
      (b.power.dev = .minimal → Answers s u c tag 0x0A b .denied [wof len]) ∧
      (b.power.dev ≠ .minimal → d0.toNat ≠ len → d0.toNat ≠ 0 → Answers s u c tag 0x0A b .range [wof len]) ∧
      (b.power.dev ≠ .minimal → d0.toNat = 0 → b.stage.st = .armed ∨ b.loader.st = .proved ∨ b.loader.st = .armed →
        Answers s u c tag 0x0A b .busy [wof len]) ∧
      (b.power.dev ≠ .minimal → d0.toNat = len → 0 < len → b.loader.fits ws = true →
        ∃ x, Answers s u c tag 0x0A x .ok [wof (len + ws.length)] ∧ x.loader.img = b.loader.img ++ ws ∧
          x.stage.st = (if b.stage.st = .proved then .staging else b.stage.st) ∧ x.stage.words = b.stage.words ∧ x.acq = b.acq ∧
          x.time = b.time ∧ x.lease = b.lease) ∧
      (b.power.dev ≠ .minimal → d0.toNat = 0 → b.stage.st ≠ .armed → b.loader.st ≠ .proved → b.loader.st ≠ .armed →
        Loader.empty.fits ws = true →
        ∃ x, Answers s u c tag 0x0A x .ok [wof ws.length] ∧ x.loader.img = ws ∧ x.loader.live = b.loader.live ∧ x.acq = b.acq ∧
          x.time = b.time ∧ x.lease = b.lease)) ∧
    (Runs s u 0x0B tag [] rest →
      let c := Instr.formeVerify u tag
      (b.power.dev = .minimal → Answers s u c tag 0x0B b .denied []) ∧
      (b.power.dev ≠ .minimal → b.loader.st = .empty → Answers s u c tag 0x0B b .nothingStaged []) ∧
      (b.power.dev ≠ .minimal → b.loader.st = .loading → Answers s u c tag 0x0B b .busy []) ∧
      (b.power.dev ≠ .minimal → b.loader.st ≠ .empty → b.loader.st ≠ .loading →
        ∃ x, Answers s u c tag 0x0B x .ok [x.formeStatus] ∧
          x = { b with loader := { b.loader with crcOk := b.loader.crcMatch, sealOk := b.loader.sealMatch } })) ∧
    (Works s u → (s.bn u).power.dev ≠ .minimal →
      let a := s.bn u
      (∀ w, 0 < a.loader.img.length → a.loader.fits [w] = true → ∃ t, exec (.loadData u w) s = .next t ∧ OnlyUnit u s t ∧
        (t.bn u).loader.img = a.loader.img ++ [w] ∧ (t.bn u).stage.words = a.stage.words ∧
        (t.bn u).stage.st = (if a.stage.st = .proved then .staging else a.stage.st) ∧ (t.bn u).acq = a.acq ∧ (t.bn u).time = a.time ∧
        (t.bn u).last = .ok) ∧
      (a.loader.st = .proved ∨ a.loader.st = .armed → exec (.loadReset u) s = .next (s.setBn u { a with last := .busy })) ∧
      (a.loader.st ≠ .proved → a.loader.st ≠ .armed → ∃ t, exec (.loadReset u) s = .next t ∧ OnlyUnit u s t ∧
        (t.bn u).loader.img = [] ∧ (t.bn u).loader.st = .empty ∧ (t.bn u).loader.live = a.loader.live ∧ (t.bn u).stage = a.stage ∧
        (t.bn u).acq = a.acq ∧ (t.bn u).time = a.time ∧ (t.bn u).last = .ok))

/-- R293, R302, R304, R442: QUEUE_FLUSH waits for its crossing, within the range of R293 and for a queue that is not reserved; SCRUB starts
with an empty summary unless one runs; SCRUB_REPORT shows SCRUB_STATE and the summary. -/
def Obligations.FlushAndScrubPackets : Prop :=
  ∀ (s : State) (u : BnId) (tag : Tag) (rest : List Pkt),
    let b := taken s u rest
    (∀ d0 d1 d2 d3, Runs s u 0x0C tag [d0, d1, d2, d3] rest →
      let c := Instr.queueFlush u tag d0 d1 d2 d3
      let q := fld d0 5 0
      let n := xcOf d1 d2 d3
      let bad := n < b.now + 64 ∨ b.now + 2 ^ 20 < n ∨ (36 ≤ q ∧ q ≤ 47)
      (b.power.dev = .minimal → Answers s u c tag 0x0C b .denied []) ∧
      (b.power.dev ≠ .minimal → bad → Answers s u c tag 0x0C b .range []) ∧
      (b.power.dev ≠ .minimal → ¬ bad →
        Answers s u c tag 0x0C { b with gal := { b.gal with flushes := b.gal.flushes ++ [(q, n)] } } .ok [])) ∧
    (∀ d0 d1 d2, Runs s u 0x0D tag [d0, d1, d2] rest →
      let c := Instr.scrub u tag d0 d1 d2
      let rate := fld d2 5 0
      let bad := d1.toNat < d0.toNat ∨ 0x3FFFF < d1.toNat ∨ rate = 0 ∨ 32 < rate
      (bad → Answers s u c tag 0x0D b .range []) ∧
      (¬ bad → b.gal.scrub.isSome = true → Answers s u c tag 0x0D b .busy []) ∧
      (¬ bad → b.gal.scrub = none → ∃ x, Answers s u c tag 0x0D x .ok [] ∧
        x = { b with regs := x.regs, gal := { b.gal with scrub := some ⟨d0.toNat, d1.toNat, rate⟩ } } ∧
        x.rd 0x2C13 = wof (2 ^ 19 + d0.toNat) ∧ (∀ i, i < 8 → x.rd (0x2C14 + i) = 0) ∧
        ∀ o, ¬ (0x2C13 ≤ o ∧ o < 0x2C1C) → x.rd o = b.rd o)) ∧
    (Runs s u 0x0E tag [] rest →
      Answers s u (.scrubReport u tag) tag 0x0E b .ok ((List.range 9).map (fun i => b.rd (0x2C13 + i))))

/-- R102, R105, R445, R293: STATS_START needs a live STATS forme and flushes queue 33; TAP_SET flushes its queue at once and asks the die
for TAP_SEL, from the holder only; a read of an empty service queue reports FLUSHED and clears it; a read consumes nothing else of
an empty queue. -/
def Obligations.StatsAndTapPackets : Prop :=
  ∀ (s : State) (u : BnId) (tag : Tag) (d0 : Word) (rest : List Pkt),
    let b := taken s u rest
    let empty (q : Nat) : Prop := (b.queue q).skip = false ∧ b.visible q = [] ∧ (b.queue q).count < 2 ^ 16
    let report (q : Nat) : List Word := [wof (b2n (b.queue q).flushed * 2 ^ 19 + (b.queue q).count)]
    (Runs s u 0x10 tag [d0] rest →
      let c := Instr.statsStart u tag d0
      let id := (b.rd 0x4051).toNat
      let may := b.power.dev ≠ .minimal ∧ b.loader.live = true ∧ (id = 0x102 ∨ id = 0x104 ∨ id = 0x108)
      (¬ may → Answers s u c tag 0x10 b .denied []) ∧
      (may → fld d0 15 0 = 0 → Answers s u c tag 0x10 b .range []) ∧
      (may → fld d0 15 0 ≠ 0 → Answers s u c tag 0x10
        { (b.wr 0x3800 (wof (fld d0 15 0))).flushQueue 33 with stats := { Stats.none with armed := true } } .ok [])) ∧
    (Runs s u 0x11 tag [d0] rest →
      (b.power.dev = .minimal → Answers s u (.statsRead u tag d0) tag 0x11 b .denied []) ∧
      (b.power.dev ≠ .minimal → empty 33 → Answers s u (.statsRead u tag d0) tag 0x11
        (b.setQueue 33 { b.queue 33 with flushed := false }) .ok (report 33)) ∧
      ∃ x st ws, Answers s u (.statsRead u tag d0) tag 0x11 x st ws) ∧
    (Runs s u 0x13 tag [d0] rest →
      let q := 48 + fld d0 3 0
      (b.power.dev = .minimal → Answers s u (.tapRead u tag d0) tag 0x13 b .denied []) ∧
      (b.power.dev ≠ .minimal → empty q → Answers s u (.tapRead u tag d0) tag 0x13
        (b.setQueue q { b.queue q with flushed := false }) .ok (report q)) ∧
      ∃ x st ws, Answers s u (.tapRead u tag d0) tag 0x13 x st ws) ∧
    (∀ d : Die, Runs s u 0x12 tag [d0] rest → d.val = fld d0 16 14 → s.variant.hasFv d = true →
      let k := fld d0 13 10
      let x := b.flushQueue (48 + k)
      let en := wbit d0 19
      (b.power.dev = .minimal → Answers s u (.tapSet u tag d0) tag 0x12 b .denied []) ∧
      (b.power.dev ≠ .minimal → b.holds = false → Answers s u (.tapSet u tag d0) tag 0x12 x .notActive []) ∧
      (b.power.dev ≠ .minimal → b.holds = true → exec (.tapSet u tag d0) s =
        .next (s.setBn u { x.wr 0x3802 (setFld (x.rd 0x3802) k k (b2n en)) with
          job := some (.tapSet tag.toNat)
          reqs := x.reqs ++ [⟨d, 1, 0x1C10 + k, wof (b2n en * 2 ^ 19 + fld d0 9 0), .job, x.xc, none, 0, 0⟩] })))

/-! ## Time, power, resets, roles and the transfer set by packet -/

/-- R162, R163, R176, R512: TIME_STEP is taken once, while UNSET, out of holdover, with a valid quad and its crossing in range; TIME_RATE within
its limits; TIME_READ shows counter, time, rate and status; HK_URGENT is refused while the converter is not on, and with four requests
queued. -/
def Obligations.TimePackets : Prop :=
  ∀ (s : State) (u : BnId) (tag : Tag) (rest : List Pkt),
    let b := taken s u rest
    (∀ d0 d1 d2 d3 d4 d5 d6, Runs s u 0x14 tag [d0, d1, d2, d3, d4, d5, d6] rest →
      let c := Instr.timeStep u tag d0 d1 d2 d3 d4 d5 d6
      let n := xcOf d0 d1 d2
      let good := b.now + 64 ≤ n ∧ n ≤ b.now + 2 ^ 20 ∧ quadOk d4 d5 d6 = true
      (b.time.step ≠ 0 → Answers s u c tag 0x14 b .stepUsed []) ∧
      (b.time.step = 0 → b.time.holdover = true → Answers s u c tag 0x14 b .busy []) ∧
      (b.time.step = 0 → b.time.holdover = false → ¬ good → Answers s u c tag 0x14 b .range []) ∧
      (b.time.step = 0 → b.time.holdover = false → good → Answers s u c tag 0x14
        { b with time := { b.time with step := 1, stepPend := some (n, quadTk d3 d4 d5 d6) } } .ok [])) ∧
    (∀ d0 d1 d2 d3 d4, Runs s u 0x15 tag [d0, d1, d2, d3, d4] rest →
      let c := Instr.timeRate u tag d0 d1 d2 d3 d4
      let n := xcOf d0 d1 d2
      let r : Int := if fld d3 3 3 = 0 then fld d3 3 0 * 2 ^ 20 + d4.toNat else fld d3 3 0 * 2 ^ 20 + d4.toNat - 2 ^ 24
      let good := -5368709 ≤ r ∧ r ≤ 5368709 ∧ b.now + 4 ≤ n ∧ n ≤ b.now + 2 ^ 20
      (¬ good → Answers s u c tag 0x15 b .range []) ∧
      (good → Answers s u c tag 0x15 { b with time := { b.time with ratePend := some (n, r) } } .ok [])) ∧
    (Runs s u 0x16 tag [] rest →
      Answers s u (.timeRead u tag) tag 0x16 b .ok (xcWords b.now ++ quad (b.time.t / 2 ^ 20) ++
        [wof b.time.t, (rateWords b.time.rate).2, (rateWords b.time.rate).1, b.viewTime 0x1800])) ∧
    (∀ d0, Runs s u 0x0F tag [d0] rest →
      let c := Instr.hkUrgent u tag d0
      let e := fld d0 5 0
      let on := b.domOn 166 = true ∧ b.domOn 167 = true
      let failed := (b.dom 166).power = .failed ∨ (b.dom 167).power = .failed
      let queued := b.hkc.urg.any (fun r => r.2 == e) = true
      let running := ∃ x, b.hkc.conv = some x ∧ x.entry = e ∧ x.urgent = false
      (failed → Answers s u c tag 0x0F b .failedDomain []) ∧
      (¬ failed → ¬ on → Answers s u c tag 0x0F b .asleep []) ∧
      (on → queued → Answers s u c tag 0x0F b .ok []) ∧
      (∀ x, on → ¬ queued → b.hkc.conv = some x → x.entry = e → x.urgent = false →
        Answers s u c tag 0x0F { b with hkc := { b.hkc with conv := some { x with met := true } } } .ok []) ∧
      (on → ¬ queued → ¬ running → b.hkc.urg.length < 4 →
        Answers s u c tag 0x0F { b with hkc := { b.hkc with urg := b.hkc.urg ++ [(2, e)] } } .ok []) ∧
      (on → ¬ queued → ¬ running → 4 ≤ b.hkc.urg.length → Answers s u c tag 0x0F b .busy []))

/-- R474, R475, R478, R442: DOZE and SLEEP are refused in MINIMAL and while an impress, an entry, a handover, a commanded scrub, an open hold
window or another entry stands in the way, and else accepted: the entry waits for its reply to leave; WAKE switches a compositor and
its case on, tries a failed domain once more, and does nothing to a domain that is on. -/
def Obligations.PowerPackets : Prop :=
  ∀ (s : State) (u : BnId) (tag : Tag) (rest : List Pkt),
    let b := taken s u rest
    let held := match b.power.holdEnd with
      | some x => b.xc ≤ x
      | none => False
    let busy := b.stage.st = .armed ∨ b.lease.join.code = 2 ∨ b.lease.join.y ≠ none ∨ b.lease.ho ≠ none ∨ b.gal.scrub ≠ none ∨ held ∨
      b.power.entry ≠ none
    let entered (doze : Bool) (op : Nat) : Bn := ({ b with power := { b.power with
      entry := some ⟨doze, none⟩, after := b.power.after ++ [(.entry, none)] } } : Bn).replyW tag.toNat op .ok [] true
    (Runs s u 0x17 tag [] rest →
      (b.power.dev = .minimal → Answers s u (.sleep u tag) tag 0x17 b .denied []) ∧
      (b.power.dev ≠ .minimal → busy → Answers s u (.sleep u tag) tag 0x17 b .busy []) ∧
      (b.power.dev ≠ .minimal → ¬ busy → exec (.sleep u tag) s = .next (s.setBn u (entered false 0x17)))) ∧
    (Runs s u 0x18 tag [] rest →
      (b.power.dev = .minimal → Answers s u (.doze u tag) tag 0x18 b .denied []) ∧
      (b.power.dev ≠ .minimal → busy → Answers s u (.doze u tag) tag 0x18 b .busy []) ∧
      (b.power.dev ≠ .minimal → ¬ busy → exec (.doze u tag) s = .next (s.setBn u (entered true 0x18)))) ∧
    (∀ d0, Runs s u 0x19 tag [d0] rest →
      let c := Instr.wake u tag d0
      let n := fld d0 7 0
      let awake : Dom := ⟨.on, true, false, 0, 0, 1⟩
      (169 < n → Answers s u c tag 0x19 b .range []) ∧
      (n ≤ 169 → (b.dom n).power = .failed → exec (.wake u tag d0) s =
        .next (s.setBn u { b.setDom n { b.dom n with waking := 2 } with job := some (.wake tag.toNat n) })) ∧
      (n ≤ 169 → (b.dom n).power = .on ∨ (b.dom n).power = .retained ∨ (136 ≤ n ∧ (b.dom n).power = .off) →
        Answers s u c tag 0x19 b .ok []) ∧
      (n < 136 → (b.dom n).power = .off → b.power.dev = .minimal → Answers s u c tag 0x19 b .denied []) ∧
      (128 ≤ n → n < 136 → (b.dom n).power = .off → b.power.dev ≠ .minimal → Answers s u c tag 0x19 (b.setDom n awake) .ok []) ∧
      (n < 128 → (b.dom n).power = .off → b.power.dev ≠ .minimal → (b.dom (128 + n / 16)).power = .failed →
        Answers s u c tag 0x19 b .failedDomain []) ∧
      (n < 128 → (b.dom n).power = .off → b.power.dev ≠ .minimal → (b.dom (128 + n / 16)).power = .on →
        Answers s u c tag 0x19 (b.setDom n awake) .ok []) ∧
      (n < 128 → (b.dom n).power = .off → b.power.dev ≠ .minimal → (b.dom (128 + n / 16)).power = .off →
        Answers s u c tag 0x19 ((b.setDom (128 + n / 16) awake).setDom n awake) .ok []))

/-- R141, R444, R523, R305, R306, R200: RESET_BLOCK resets an FV die from the holder, this BN die or a lane once its reply has left, the HKC
at once, and is RANGE for any other block. The self-tests: the checker answers at once with PASS and the failing vectors, test 11b is
RANGE, the probe waits for 16 rounds, the galley test runs in READY and IDLE only, empties galley and replay reserve, and answers PASS and
the corrected reads. -/
def Obligations.ResetAndTestPackets : Prop :=
  (
  ∀ (s : State) (u : BnId) (tag : Tag) (rest : List Pkt),
    let b := taken s u rest
    let addr (target blk : Nat) : Word := wof (target * 2 ^ 17 + blk)
    let later (a : AfterReply) : Bn :=
      ({ b with power := { b.power with after := b.power.after ++ [(a, none)] } } : Bn).replyW tag.toNat 0x1A .ok [] true
    (∀ d : Die, Runs s u 0x1A tag [addr d.val 0] rest →
      let c := Instr.resetBlockFv u tag d
      (s.variant.hasFv d = false → Answers s u c tag 0x1A b .badAddress []) ∧
      (s.variant.hasFv d = true → b.holds = false → Answers s u c tag 0x1A b .notActive []) ∧
      (s.variant.hasFv d = true → b.holds = true → (s.fv d).powered = false → Answers s u c tag 0x1A b .timeout []) ∧
      (s.variant.hasFv d = true → b.holds = true → (s.fv d).powered = true → ∃ t, exec c s = .next t ∧
        t.bn u = b.reply tag.toNat 0x1A .ok [] ∧ t.bn u.other = s.bn u.other ∧ t.fv d = (s.fv d).reset false ∧
        (∀ e, e ≠ d → t.fv e = s.fv e) ∧ (t.fv d).safe = true ∧ (t.fv d).safeCause = 0 ∧ (t.fv d).regs = [] ∧
        (t.fv d).epoch = ((s.fv d).epoch + 1) % 16)) ∧
    (∀ blk : BitVec 8, Runs s u 0x1A tag [addr 7 blk.toNat] rest → Answers s u (.resetBlockBn u tag true blk) tag 0x1A b .range []) ∧
    (Runs s u 0x1A tag [addr 6 0] rest → exec (.resetBlockBn u tag false 0) s = .next (s.setBn u (later .resetDie))) ∧
    (∀ blk : BitVec 8, 1 < blk.toNat → blk.toNat < 0x10 ∨ 0x16 < blk.toNat → Runs s u 0x1A tag [addr 6 blk.toNat] rest →
      Answers s u (.resetBlockBn u tag false blk) tag 0x1A b .range []) ∧
    (∀ l : Lane, l.val ≤ 4 ∨ s.variant ≠ .sln2 → Runs s u 0x1A tag [addr 6 (0x10 + l.val)] rest →
      exec (.laneRestart u tag l) s = .next (s.setBn u (later (.lane l)))) ∧
    (∀ l : Lane, 5 ≤ l.val → s.variant = .sln2 → Runs s u 0x1A tag [addr 6 (0x10 + l.val)] rest →
      Answers s u (.laneRestart u tag l) tag 0x1A b .range []) ∧
    exec (.resetBlockBn u tag false 1) s = exec (.resetBlockHkc u tag) s ∧
    (∀ l : Lane, exec (.resetBlockBn u tag false (BitVec.ofNat 8 (0x10 + l.val))) s = exec (.laneRestart u tag l) s) ∧
    (Runs s u 0x1A tag [addr 6 1] rest →
      ∃ x, Answers s u (.resetBlockHkc u tag) tag 0x1A x .ok [] ∧ x.hkc.urg = [] ∧ x.hkc.conv = none ∧ x.time = b.time ∧
        x.lease = b.lease ∧ x.acq = b.acq ∧ x.power = b.power ∧ x.pantry = b.pantry ∧ x.rd 0x3007 = 0 ∧ x.rd 0x3005 = 0 ∧
        x.rd 0x3002 = b.pw 0x01E0 ∧ (∀ o, ¬ (0x3000 ≤ o ∧ o < 0x3400) → x.rd o = b.rd o))) ∧
  (
  ∀ (s : State) (u : BnId) (tag : Tag) (rest : List Pkt),
    let b := taken s u rest
    let h := b.boot.health
    (Runs s u 0x1B tag [3] rest → Answers s u (.selftestChecker u tag true) tag 0x1B b .range []) ∧
    (Runs s u 0x1B tag [0] rest → Answers s u (.selftestChecker u tag false) tag 0x1B b .ok
      [wof (b2n (h.checkerFails == 0) * 2 ^ 19 + min h.checkerFails 255)]) ∧
    (Runs s u 0x1B tag [1] rest → exec (.selftestProbe u tag) s =
      .next (s.setBn u { b with job := some (.probe tag.toNat (b.rd 0x3C04).toNat (b.xc + 17)) })) ∧
    (Runs s u 0x1B tag [2] rest →
      (¬ (b.power.dev = .ready ∧ b.acq.phase = .idle) → Answers s u (.selftestGalley u tag) tag 0x1B b .denied []) ∧
      (b.power.dev = .ready → b.acq.phase = .idle → ∃ x, Answers s u (.selftestGalley u tag) tag 0x1B x .ok
          [wof (b2n h.memOk * 2 ^ 19 + min h.memCorr 4095)] ∧ x.gal.queues = [] ∧ x.gal.cells = [] ∧ x.rd 0x2C1D = 0 ∧
        fld (x.rd 0x2C01) 11 0 = min h.memCorr 4095 ∧ x.time = b.time ∧ x.acq = b.acq ∧ x.lease = b.lease ∧ x.stage = b.stage)))
/-- R441, R552, R553, R394, R442: BOOT_INFO shows a boot record of the pantry, the newest for 0; BOOT_CLEAR sets the boot counters to 0;
LEASE_INFO shows the words of the LEASE block. ENTER asks for shadow entry in COLD; LEAVE releases the lease in ACTIVE and makes a SHADOW
unit COLD from the next boundary; other codes are RANGE; every other role, MINIMAL and SLN-2 are DENIED. -/
def Obligations.InfoAndRolePackets : Prop :=
  (
  ∀ (s : State) (u : BnId) (tag : Tag) (rest : List Pkt),
    let b := taken s u rest
    (∀ d0, Runs s u 0x1C tag [d0] rest → Answers s u (.bootInfo u tag d0) tag 0x1C b .ok
      ((List.range 15).map (fun i => b.pw (0x0200 + 32 * ((fld (b.pw 4) 2 0 + 8 - fld d0 2 0) % 8) + i)))) ∧
    (Runs s u 0x1D tag [] rest → Answers s u (.bootClear u tag) tag 0x1D (b.setPw 2 0) .ok []) ∧
    (∀ d0, Runs s u 0x1E tag [d0] rest → Answers s u (.leaseInfo u tag d0) tag 0x1E b .ok
      ((if wbit d0 0 then List.range' 0x200F 4 else List.range' 0x2000 15).map (b.viewLease (s.variant == .sln2))))) ∧
  (
  ∀ (s : State) (u : BnId) (tag : Tag) (rest : List Pkt),
    let b := taken s u rest
    let never := b.power.dev = .minimal ∨ s.variant = .sln2
    (∀ code : BitVec 8, Runs s u 0x1F tag [wof code.toNat] rest →
      let c := Instr.enter u tag code
      (never → Answers s u c tag 0x1F b .denied []) ∧
      (¬ never → 2 ≤ code.toNat → Answers s u c tag 0x1F b .range []) ∧
      (¬ never → code = 0 → b.lease.role = .cold → Answers s u c tag 0x1F
        { b with lease := { b.lease with join := { b.lease.join with wanted := true, askAt := none } } } .ok []) ∧
      (¬ never → code = 0 → b.lease.role ≠ .cold → Answers s u c tag 0x1F b .denied [])) ∧
    (Runs s u 0x1F tag [1] rest →
      let c := Instr.leave u tag
      (never → Answers s u c tag 0x1F b .denied []) ∧
      (¬ never → b.lease.role = .active → Answers s u c tag 0x1F
        { b with lease := { b.lease with released := true, next := some (.quiet, b.xc + 1) } } .ok []) ∧
      (¬ never → b.lease.role = .shadow → Answers s u c tag 0x1F
        { b with lease := { b.lease with next := some (.cold, b.xc + 1) } } .ok []) ∧
      (¬ never → b.lease.role ≠ .active → b.lease.role ≠ .shadow → Answers s u c tag 0x1F b .denied [])))
/-- R443, R417: STATE_SAVE shows the size of the transfer set and seven doubles from an index on; STATE_RESTORE takes doubles at the next
expected index only; both are DENIED in MINIMAL, out of IDLE, without a live forme and during an entry. The last double sets
RESTORE_ARMED. -/
def Obligations.TransferSetPackets : Prop :=
  ∀ (s : State) (u : BnId) (tag : Tag) (rest : List Pkt),
    let b := taken s u rest
    let may := b.power.dev ≠ .minimal ∧ b.acq.phase = .idle ∧ b.loader.live = true ∧ b.lease.join.code ≠ 2 ∧ b.lease.join.y = none
    (∀ d0, Runs s u 0x20 tag [d0] rest →
      let c := Instr.stateSave u tag d0
      (¬ may → Answers s u c tag 0x20 b .denied []) ∧
      (may → b.transferSet.length ≤ d0.toNat → Answers s u c tag 0x20 b .range []) ∧
      (may → d0.toNat < b.transferSet.length → Answers s u c tag 0x20 b .ok
        (wof b.transferSet.length :: ((b.transferSet.drop d0.toNat).take 7).flatMap (fun d => [dhi d, dlo d])))) ∧
    (∀ (d0 : Word) (ws : List Word), Runs s u 0x21 tag (d0 :: ws) rest →
      let c := Instr.stateRestore u tag d0 ws
      let all := b.saved ++ toDoubles ws
      let size := (dhi (all.getD 0 0)).toNat
      let q := (List.range 64).foldl (fun a i => a + fld (dhi (all.getD (2 + i) 0)) 18 0) 0
      let least := 66 + 22 * b.useMask.length
      (¬ may → Answers s u c tag 0x21 b .denied []) ∧
      (may → d0.toNat ≠ b.saved.length → Answers s u c tag 0x21 b .range []) ∧
      (may → d0.toNat = b.saved.length → size < least ∨ size < all.length → Answers s u c tag 0x21 b .range []) ∧
      (may → d0.toNat = b.saved.length → least ≤ size → all.length ≤ size → all.length < 66 ∨ size = least + q →
        ∃ x, Answers s u c tag 0x21 x .ok [wof (if all.length = size then 0 else all.length)] ∧
          x.saved = (if all.length = size then [] else all) ∧ (all.length = size → x.stage.restoreArmed = true) ∧
          x.time = b.time ∧ x.acq = b.acq ∧ x.lease = b.lease ∧ x.stage.words = b.stage.words) ∧
      (may → d0.toNat = b.saved.length → least ≤ size → all.length ≤ size → 66 ≤ all.length → size ≠ least + q →
        Answers s u c tag 0x21 { b with saved := [] } .range []))

/-! ## The compositor array -/

namespace Sys2Proof.Claims

/-- The instruction of opcode `op` and fields `f` issues in cycle `c` and its condition holds: `k` is the compositor as the cycle begins,
`b` the unit with `k` in its place and the cycle noted. -/
def Goes (s : State) (u : BnId) (n : CompId) (c : Cyc) (op : Nat) (f : IFields) (b : Bn) (k : Comp) : Prop :=
  (s.bn u).issue n c (fun o => o == op) f = .go b k

/-- The compositor at the end of its cycle: the results due in it land (R217). -/
def ends (n : CompId) (b : Bn) : Bn := b.setComp n.val ((b.comp n.val).settleResults b.cycle)

/-- An executed instruction has exactly one result, `dst` of the compositor's registers, at the end of cycle c + lat − 1 (R217). -/
def Lands (s : State) (u : BnId) (n : CompId) (c : Cyc) (op : Nat) (f : IFields) (i : Instr) (lat : Nat) (dst : Comp → Dest) : Prop :=
  ∀ b k, Goes s u n c op f b k → exec i s =
    .next (s.setBn u (b.setComp n.val ((k.fly (b.cycle + lat - 1) b.cycle (dst k)).settleResults b.cycle)))

/-- A result of latency 1 on gD, from gA, gB and the fields. -/
def Gives (s : State) (u : BnId) (n : CompId) (c : Cyc) (op : Nat) (f : IFields) (i : Instr) (v : Word → Word → Word) : Prop :=
  Lands s u n c op f i 1 (fun k => .reg f.d.toNat (v (k.rg f.a.toNat) (k.rg f.b.toNat)))

/-- R222: a value clamped to `w` bits. -/
def clamped (w : Nat) (v : Int) : BitVec w :=
  BitVec.ofInt w (if v < -2 ^ (w - 1) then -2 ^ (w - 1) else if 2 ^ (w - 1) ≤ v then 2 ^ (w - 1) - 1 else v)

/-- R222: shr(v, s, rnd). -/
def shifted (v : Int) (s : Nat) (rnd : Bool) : Int := if rnd = true ∧ s ≠ 0 then (v + 2 ^ (s - 1)) / 2 ^ s else v / 2 ^ s

/-- R226: the conditions by their codes, and the combine modes. -/
def compares (code : Nat) (a b : Word) : Bool :=
  [a == b, a != b, a.slt b, a.sle b, b.slt a, b.sle a, a.ult b, b.ule a].getD code false
def combines (mode : Nat) (old new : Bool) : Bool := if mode = 1 then old && new else if mode = 2 then old || new else new

/-- The instructions with their opcodes (R221); RSEND apart, whose row also counts a free value. -/
def issued (u : BnId) (n : CompId) (c : Cyc) (f : IFields) : List (Nat × Instr) :=
  [(0x00, .nopInstruction u n c 0 f), (0x01, .add u n c f), (0x02, .sub u n c f), (0x03, .adds u n c f), (0x04, .subs u n c f),
    (0x05, .addi u n c f), (0x06, .addis u n c f), (0x07, .ldi u n c f), (0x08, .and u n c f), (0x09, .or u n c f), (0x0A, .xor u n c f),
    (0x0B, .andi u n c f), (0x0C, .ori u n c f), (0x0D, .xori u n c f), (0x0E, .min u n c f), (0x0F, .max u n c f), (0x10, .abs u n c f),
    (0x11, .negs u n c f), (0x12, .shl u n c f), (0x13, .shr u n c f), (0x14, .sra u n c f), (0x15, .shli u n c f)] ++
  [(0x16, .shri u n c f), (0x17, .srai u n c f), (0x18, .ext u n c f), (0x19, .exts u n c f), (0x1A, .ins u n c f), (0x1B, .clz u n c f),
    (0x1C, .cmp u n c f), (0x1D, .cmpi u n c f), (0x1E, .sel u n c f), (0x1F, .pset u n c f), (0x20, .mula u n c f), (0x21, .mac u n c f),
    (0x22, .macs u n c f), (0x23, .msu u n c f), (0x24, .msus u n c f), (0x25, .maci u n c f), (0x26, .rda u n c f), (0x27, .wra u n c f),
    (0x28, .mul u n c f), (0x29, .tld u n c f), (0x2A, .luti u n c f), (0x2B, .recip u n c f), (0x2C, .rstep u n c f)] ++
  [(0x30, .xsend u n c f), (0x31, .xrecv u n c f), (0x33, .rrecv u n c f), (0x34, .gput u n c f), (0x35, .gget u n c f),
    (0x36, .jput u n c f), (0x37, .mark u n c f), (0x38, .rdsys u n c f)]

end Sys2Proof.Claims

/-- R182–R184, R212, R215, R216: in RUN a compositor in the use mask that is on issues, in cycles 0 to 30, exactly the instruction that
the position of the crossing holds; a failing condition costs the issue cycle and has no effect; otherwise nothing issues. -/
def Obligations.CompositorIssue : Prop :=
  ∀ (s : State) (u : BnId) (n : CompId) (c : Cyc) (f : IFields) (op : Nat) (i : Instr),
    let b := s.bn u
    let place := 32 * (b.now % b.period) + c.val
    let ready := b.power.dev = .run ∧ b.power.clkWait = false ∧ b.used n.val = true ∧ b.domOn n.val = true ∧
      b.domOn (128 + n.val / 16) = true ∧ c.val ≠ 31 ∧ b.arr.cursor < 128 * c.val + n.val + 1 ∧
      mget (b.comp n.val).flips (memKey 2 (b.comp n.val).insBank (place / 2)) 0 = 0
    let k := (b.comp n.val).settle (32 * b.xc + c.val - 1)
    let b' := ({ b with cyc := c.val, arr := { b.arr with cursor := 128 * c.val + n.val + 1 } } : Bn).setComp n.val k
    let holds : Prop :=
      if f.psense = false then f.psel = 0 ∨ k.p.getLsbD f.psel.toNat = true
      else if f.psel = 0 then k.p.getLsbD 0 = true else k.p.getLsbD f.psel.toNat = false
    (op, i) ∈ issued u n c f →
      (ready → mget (b.comp n.val).insLive place 0 = insWord op f → holds → Goes s u n c op f b' k) ∧
      (ready → mget (b.comp n.val).insLive place 0 = insWord op f → ¬ holds → exec i s = .next (s.setBn u b')) ∧
      (b.power.dev ≠ .run ∨ b.used n.val = false ∨ b.domOn n.val = false ∨ c.val = 31 ∨
          (mget (b.comp n.val).flips (memKey 2 (b.comp n.val).insBank (place / 2)) 0 = 0 ∧
            mget (b.comp n.val).insLive place 0 ≠ insWord op f) →
        exec i s = .next s)

/-- R217, R219, R220, R222, R228, R234: a result in flight stays until its due cycle and then changes exactly its destination; of two
results of one cycle on one register the one issued later stands; accumulations wrap or clamp at the write; a stop discards the results
of instructions and keeps doubles on their way. -/
def Obligations.ResultsLand : Prop :=
  ∀ (k : Comp) (due rank cyc : Nat) (dst : Dest), k.flight = [] →
    (cyc < due → (k.fly due rank dst).settle cyc = k.fly due rank dst) ∧
    (due ≤ cyc → (k.fly due rank dst).settle cyc = k.land dst) ∧
    (dst.isPort = false → due ≤ cyc → (k.fly due rank dst).settleResults cyc = k.land dst) ∧
    (∀ r v v' rank', rank < rank' → due ≤ cyc →
      (((k.fly due rank (.reg r v)).fly due rank' (.reg r v')).settle cyc).rg r = v' ∧
      (((k.fly due rank' (.reg r v')).fly due rank (.reg r v)).settle cyc).rg r = v') ∧
    (∀ r v, (k.land (.reg r v)) = { k with g := mput k.g r v 0 }) ∧
    (∀ r (w0 w1 : Word), r < 31 → (k.land (.pair r (w0 ++ w1))) = { k with g := mput (mput k.g r w0 0) (r + 1) w1 0 }) ∧
    (∀ w0 w1 : Word, (k.land (.pair 31 (w0 ++ w1))) = { k with g := mput k.g 31 w0 0 }) ∧
    (∀ j v, j < 4 → (∀ i < 4, (k.land (.pred j v)).p.getLsbD i = if i = j then v else k.p.getLsbD i) ∧
      (k.land (.pred j v)).g = k.g ∧ (k.land (.pred j v)).a0 = k.a0 ∧ (k.land (.pred j v)).a1 = k.a1) ∧
    (∀ v, k.land (.accSet false v) = { k with a0 := v } ∧ k.land (.accSet true v) = { k with a1 := v }) ∧
    (∀ v, k.land (.accAdd false v false) = { k with a0 := k.a0 + BitVec.ofInt 48 v } ∧
      k.land (.accAdd true v false) = { k with a1 := k.a1 + BitVec.ofInt 48 v } ∧
      k.land (.accAdd false v true) = { k with a0 := clamped 48 (k.a0.toInt + v) } ∧
      k.land (.accAdd true v true) = { k with a1 := clamped 48 (k.a1.toInt + v) }) ∧
    (k.fly due rank dst).halt = (if dst.isPort = true then k.fly due rank dst else k)

/-- R223–R227: the results of the shift, field, leading-zero, compare, select and predicate instructions. -/
def Obligations.CompositorFieldsAndPredicates : Prop :=
  ∀ (s : State) (u : BnId) (n : CompId) (c : Cyc) (f : IFields),
    let im : Nat := f.imm.toNat
    let lo := im / 2 ^ 5 % 2 ^ 5
    let w := min (im % 2 ^ 5 + 1) 20
    let ones : Word := BitVec.ofNat 20 (2 ^ w - 1)
    let j : Nat := f.d.toNat % 4
    let B : Nat := f.b.toNat
    Gives s u n c 0x12 f (.shl u n c f) (fun a b => a <<< (b.toNat % 32)) ∧
    Gives s u n c 0x13 f (.shr u n c f) (fun a b => a >>> (b.toNat % 32)) ∧
    Gives s u n c 0x14 f (.sra u n c f) (fun a b => a.sshiftRight (b.toNat % 32)) ∧
    Gives s u n c 0x15 f (.shli u n c f) (fun a _ => a <<< (im % 32)) ∧
    Gives s u n c 0x16 f (.shri u n c f) (fun a _ => a >>> (im % 32)) ∧
    Gives s u n c 0x17 f (.srai u n c f) (fun a _ => a.sshiftRight (im % 32)) ∧
    Gives s u n c 0x18 f (.ext u n c f) (fun a _ => (a >>> lo) &&& ones) ∧
    Gives s u n c 0x19 f (.exts u n c f) (fun a _ => ((a.sshiftRight lo) <<< (20 - w)).sshiftRight (20 - w)) ∧
    Gives s u n c 0x1A f (.ins u n c f) (fun a b => (b &&& ~~~ (ones <<< lo)) ||| ((a <<< lo) &&& (ones <<< lo))) ∧
    Gives s u n c 0x1B f (.clz u n c f) (fun a _ => if a = 0 then 20 else BitVec.ofNat 20 (19 - a.toNat.log2)) ∧
    Lands s u n c 0x1C f (.cmp u n c f) 1 (fun k =>
      .pred j (combines (im / 2 ^ 3 % 4) (k.p.getLsbD j) (compares (im % 8) (k.rg f.a.toNat) (k.rg f.b.toNat)))) ∧
    Lands s u n c 0x1D f (.cmpi u n c f) 1 (fun k =>
      .pred j (combines (B % 4) (k.p.getLsbD j) (compares (B / 4) (k.rg f.a.toNat) (f.imm.signExtend 20)))) ∧
    Lands s u n c 0x1E f (.sel u n c f) 1 (fun k =>
      .reg f.d.toNat (if k.p.getLsbD (im % 4) then k.rg f.a.toNat else k.rg f.b.toNat)) ∧
    Lands s u n c 0x1F f (.pset u n c f) 1 (fun _ => .preds (im / 2 ^ 4 % 2 ^ 4) (im % 2 ^ 4)) ∧
    (∀ (k : Comp) (m v : Nat), m < 16 → ∀ i < 4,
      (k.land (.preds m v)).p.getLsbD i = if m.testBit i then v.testBit i else k.p.getLsbD i)

/-- R213, R221, R222, R228, R229, R232, R233: the results of the add, logic, minimum and immediate instructions. The results of the multiply,
accumulator and reciprocal instructions. -/
def Obligations.CompositorArithmetic : Prop :=
  (
  ∀ (s : State) (u : BnId) (n : CompId) (c : Cyc) (f : IFields),
    let simm : Word := f.imm.signExtend 20
    let uimm : Word := f.imm.setWidth 20
    let least : Word := 0x80000
    let most : Word := 0x7FFFF
    (∀ op, op = 0 ∨ 0x2D ≤ op.toNat ∧ op.toNat < 0x30 ∨ 0x39 ≤ op.toNat → ∀ b k, Goes s u n c op.toNat f b k →
      exec (.nopInstruction u n c op f) s = .next (s.setBn u (ends n b))) ∧
    Gives s u n c 0x01 f (.add u n c f) (fun a b => a + b) ∧
    Gives s u n c 0x02 f (.sub u n c f) (fun a b => a - b) ∧
    Gives s u n c 0x03 f (.adds u n c f) (fun a b => clamped 20 (a.toInt + b.toInt)) ∧
    Gives s u n c 0x04 f (.subs u n c f) (fun a b => clamped 20 (a.toInt - b.toInt)) ∧
    Gives s u n c 0x05 f (.addi u n c f) (fun a _ => a + simm) ∧
    Gives s u n c 0x06 f (.addis u n c f) (fun a _ => clamped 20 (a.toInt + f.imm.toInt)) ∧
    Gives s u n c 0x07 f (.ldi u n c f) (fun _ _ => f.b.setWidth 4 ++ f.imm) ∧
    Gives s u n c 0x08 f (.and u n c f) (fun a b => a &&& b) ∧
    Gives s u n c 0x09 f (.or u n c f) (fun a b => a ||| b) ∧
    Gives s u n c 0x0A f (.xor u n c f) (fun a b => a ^^^ b) ∧
    Gives s u n c 0x0B f (.andi u n c f) (fun a _ => a &&& uimm) ∧
    Gives s u n c 0x0C f (.ori u n c f) (fun a _ => a ||| uimm) ∧
    Gives s u n c 0x0D f (.xori u n c f) (fun a _ => a ^^^ uimm) ∧
    Gives s u n c 0x0E f (.min u n c f) (fun a b => if a.slt b then a else b) ∧
    Gives s u n c 0x0F f (.max u n c f) (fun a b => if a.slt b then b else a) ∧
    Gives s u n c 0x10 f (.abs u n c f) (fun a _ => if a = least then most else if a.msb then -a else a) ∧
    Gives s u n c 0x11 f (.negs u n c f) (fun a _ => if a = least then most else -a)) ∧
  (
  ∀ (s : State) (u : BnId) (n : CompId) (c : Cyc) (f : IFields),
    let im : Nat := f.imm.toNat
    let a1 : Bool := f.d.getLsbD 0
    let A (k : Comp) : Word := k.rg f.a.toNat
    let B (k : Comp) : Word := k.rg f.b.toNat
    Lands s u n c 0x20 f (.mula u n c f) 3 (fun k => .accSet a1 ((A k).signExtend 48 * (B k).signExtend 48)) ∧
    Lands s u n c 0x21 f (.mac u n c f) 3 (fun k => .accAdd a1 ((A k).toInt * (B k).toInt) false) ∧
    Lands s u n c 0x22 f (.macs u n c f) 3 (fun k => .accAdd a1 ((A k).toInt * (B k).toInt) true) ∧
    Lands s u n c 0x23 f (.msu u n c f) 3 (fun k => .accAdd a1 (-((A k).toInt * (B k).toInt)) false) ∧
    Lands s u n c 0x24 f (.msus u n c f) 3 (fun k => .accAdd a1 (-((A k).toInt * (B k).toInt)) true) ∧
    Lands s u n c 0x25 f (.maci u n c f) 3 (fun k => .accAdd a1 ((A k).toInt * f.imm.toInt) false) ∧
    Lands s u n c 0x26 f (.rda u n c f) 2 (fun k =>
      .reg f.d.toNat (clamped 20 (shifted (if f.imm.getLsbD 7 then k.a1.toInt else k.a0.toInt) (im % 2 ^ 6) (f.imm.getLsbD 6)))) ∧
    Lands s u n c 0x27 f (.wra u n c f) 1 (fun k => .accSet a1 ((A k).signExtend 28 ++ B k)) ∧
    Lands s u n c 0x28 f (.mul u n c f) 3 (fun k =>
      .reg f.d.toNat (clamped 20 (shifted ((A k).toInt * (B k).toInt) (im % 2 ^ 6) (f.imm.getLsbD 6)))) ∧
    Lands s u n c 0x2B f (.recip u n c f) 3 (fun k =>
      let mj := 2 ^ 18 + (A k).toNat / 2 ^ 12 % 2 ^ 6 * 2 ^ 12 + 2 ^ 11
      .reg f.d.toNat (BitVec.ofNat 20 (min 524287 ((2 ^ 37 + mj / 2) / mj)))) ∧
    Lands s u n c 0x2C f (.rstep u n c f) 3 (fun k =>
      let m := (A k).toInt
      let y := (B k).toInt
      .reg f.d.toNat (clamped 20 ((y * (2 ^ 38 - m * y) + 2 ^ 36) / 2 ^ 37))))
/-- R185, R186, R188, R191, R230, R231, R234–R238: what the table, port and system instructions read and send. -/
def Obligations.CompositorPorts : Prop :=
  ∀ (s : State) (u : BnId) (n : CompId) (c : Cyc) (f : IFields) (b : Bn) (k : Comp),
    let im : Nat := f.imm.toNat
    let both : Dbl := k.rg f.a.toNat ++ k.rg f.b.toNat
    let sound (i : Nat) : Prop := mget (b.comp n.val).flips (memKey 1 (b.comp n.val).tblBank (i % 2048 / 4)) 0 = 0
    let after (lat : Nat) (b : Bn) (k : Comp) (d : Dest) : Host.Outcome State Fault Refusal :=
      .next (s.setBn u (b.setComp n.val ((k.fly (b.cycle + lat - 1) b.cycle d).settleResults b.cycle)))
    let own := n.val / 16
    (Goes s u n c 0x29 f b k → sound ((k.rg f.a.toNat).toNat % 2048 + im % 2048) →
      exec (.tld u n c f) s = after 3 b k (.reg f.d.toNat (b.tableWord n.val ((k.rg f.a.toNat).toNat % 2048 + im % 2048)))) ∧
    (Goes s u n c 0x2A f b k →
      let base := im % 2048
      let e := im / 2 ^ 11
      let x := if f.b.getLsbD 0 then ((k.rg f.a.toNat).toNat + 2 ^ 19) % 2 ^ 20 else (k.rg f.a.toNat).toNat
      let i := x / 2 ^ e
      let t0 := (b.tableWord n.val (base + i)).toInt
      let t1 := (b.tableWord n.val (base + i + 1)).toInt
      let h : Int := if e = 0 then 0 else 2 ^ (e - 1)
      sound (base + i) → sound (base + i + 1) →
      exec (.luti u n c f) s = after 4 b k (.reg f.d.toNat (clamped 20 (t0 + ((t1 - t0) * ((x - i * 2 ^ e : Nat) : Int) + h) / 2 ^ e)))) ∧
    (Goes s u n c 0x30 f b k → ∃ b1 : Bn, exec (.xsend u n c f) s = .next (s.setBn u (ends n b1)) ∧
      b1 = (if b.domOn (16 * own + im % 16) then
        b.setComp (16 * own + im % 16) ((b.comp (16 * own + im % 16)).fly b.cycle (128 - n.val) (.xin n.val both)) else b)) ∧
    (Goes s u n c 0x31 f b k → exec (.xrecv u n c f) s = after 1 b k (.pair f.d.toNat k.xin)) ∧
    (Goes s u n c 0x32 f b k → ∃ (b1 : Bn) (m : Nat), exec (.rsend u n c f) s = .next ({ s with freeCtr := m }.setBn u (ends n b1)) ∧
      let dest := im % 2 ^ 7
      let up : Bool := decide ((dest / 16 + 8 - own) % 8 ≤ 4)
      let h := min ((dest / 16 + 8 - own) % 8) ((own + 8 - dest / 16) % 8)
      (dest / 16 = own → b1 = b) ∧
      (dest / 16 ≠ own → (∀ l ∈ b.arr.links, l.1 = linkId own up → l.2.1 ≠ b.cycle) → b.domOn dest = true →
        (b1.comp dest) = (b.comp dest).fly (b.cycle + 2 * h - 1) (128 - h) (.rin up h n.val both))) ∧
    (Goes s u n c 0x33 f b k →
      exec (.rrecv u n c f) s = after 1 b k (.pair f.d.toNat (if f.imm.getLsbD 0 then k.rinDn else k.rinUp))) ∧
    (mget b.arr.gport own 0 ≠ b.cycle + 1 →
      let b0 := b.mapArr (fun a => { a with gport := mput a.gport own (b.cycle + 1) 0 })
      (Goes s u n c 0x34 f b k → exec (.gput u n c f) s =
        .next (s.setBn u (ends n (b0.qWrite (im % 64) both (f.imm.getLsbD 6) false (b.cycle + 4)).1))) ∧
      (Goes s u n c 0x37 f b k → exec (.mark u n c f) s =
        .next (s.setBn u (ends n (b0.qWrite (im % 64) (both ||| (0xE0000#20 ++ 0#20)) (f.imm.getLsbD 6) false (b.cycle + 4)).1))) ∧
      (Goes s u n c 0x35 f b k → exec (.gget u n c f) s =
        let r := b0.qGet (im % 64)
        after 6 r.1 (r.1.comp n.val) (.pairValid f.d.toNat r.2.1 (im / 2 ^ 6 % 4) r.2.2))) ∧
    (mget b.arr.gport own 0 = b.cycle + 1 →
      (Goes s u n c 0x34 f b k → exec (.gput u n c f) s = .next (s.setBn u (ends n b))) ∧
      (Goes s u n c 0x37 f b k → exec (.mark u n c f) s = .next (s.setBn u (ends n b))) ∧
      (Goes s u n c 0x35 f b k → exec (.gget u n c f) s = after 6 b k (.pairValid f.d.toNat 0 (im / 2 ^ 6 % 4) false))) ∧
    (Goes s u n c 0x36 f b k → exec (.jput u n c f) s = .next (s.setBn u (ends n (
      let l := min (im % 64) 32
      if l = 0 ∨ mget b.arr.jport own 0 = b.cycle + 1 then b
      else b.mapArr (fun a => { a with jport := mput a.jport own (b.cycle + 1) 0, jwords := a.jwords ++ [(l, both.toNat % 2 ^ l)] }))))) ∧
    (Goes s u n c 0x38 f b k → ∃ v, exec (.rdsys u n c f) s = after 1 b k (.reg f.d.toNat v) ∧
      (im % 32 = 0 → v = BitVec.ofNat 20 b.now) ∧ (im % 32 = 1 → v = BitVec.ofNat 20 (b.now / 2 ^ 20)) ∧
      (im % 32 = 2 → v = BitVec.ofNat 20 (b.now / 2 ^ 40 % 2 ^ 8)) ∧
      (im % 32 = 3 → v = BitVec.ofNat 20 ((match s.variant with | .sln2 => 2 | .sln4 => 4 | .sln8 => 8) * 2 ^ 8 + n.val)) ∧
      (im % 32 = 6 → v = BitVec.ofNat 20 b.acq.totcut) ∧ (im % 32 = 18 → v = b.acq.thermNow) ∧ (20 ≤ im % 32 → v = 0))

/-- R198–R200, R203, R204, R448, R580: what the array does beside its instructions: a probe step that mismatches is recorded, a clean round
counts, the scrub mends what the code can correct, the second port copies an exchanged bank and computes its CRC. -/
def Obligations.ArrayMaintenance : Prop :=
  ∀ (s : State) (u : BnId) (n : CompId), s.hasBn u = true →
    let b := s.bn u
    let k := b.comp n.val
    let live := (b.power.dev = .ready ∨ b.power.dev = .run) ∧ b.power.clkWait = false
    (∀ dev, live → b.domOn n.val = true → dev ≠ 0 → (b.xc, n.val) ∉ b.arr.probeBad →
      ∃ t, exec (.probeStep u n dev) s = .next t ∧ OnlyUnit u s t ∧
        wbit ((t.bn u).rd (0x3D00 + n.val)) 16 = true ∧
        fld ((t.bn u).rd (0x3D00 + n.val)) 7 0 = min (fld (b.rd (0x3D00 + n.val)) 7 0 + 1) 255 ∧
        (t.bn u).rd 0x3C04 = satAdd (b.rd 0x3C04) 1 20 ∧
        (t.bn u).rd 0x3C05 = wof (2 ^ 19 + n.val * 2 ^ 12 + b.now % 16 * 2 ^ 8 + b.now % 2 ^ 8) ∧
        (∀ o, o ≠ 0x3D00 + n.val → o ≠ 0x3C04 → o ≠ 0x3C05 → (t.bn u).rd o = b.rd o) ∧ (t.bn u).arr.comps = b.arr.comps) ∧
    (∀ dev, dev = 0 ∨ b.domOn n.val = false → exec (.probeStep u n dev) s = .next s) ∧
    (live → 2 ≤ b.xc → b.arr.probeRec = none → (∀ tag q f, b.job ≠ some (.probe tag q f)) →
      (∃ m : CompId, b.domOn m.val = true ∧ (b.used m.val = true ∨ b.loader.live = false)) →
      ∃ t, exec (.probeRound u) s = .next t ∧ OnlyUnit u s t ∧ (t.bn u).arr.probeRec = some (b.xc - 2) ∧
        (t.bn u).rd 0x3C03 = (if ∃ m : CompId, b.domOn m.val = true ∧ (b.used m.val = true ∨ b.loader.live = false) ∧
          (b.xc - 2, m.val) ∈ b.arr.probeBad then 0 else satAdd (b.rd 0x3C03) 1 20) ∧
        (∀ o, o ≠ 0x3C03 → (t.bn u).rd o = b.rd o) ∧ (t.bn u).arr.comps = b.arr.comps) ∧
    (live → ∃ t, exec (.compositorScrub u) s = .next t ∧ OnlyUnit u s t ∧ (t.bn u).arr.scrubPos = (b.arr.scrubPos + 1) % 1280 ∧
      ((b.domOn n.val = false ∨ k.flips = []) → (t.bn u).comp n.val = k) ∧
      (∀ e, b.arr.scrubPos < 512 → b.domOn n.val = true → mget k.flips (memKey 1 false b.arr.scrubPos) 0 = e → e ≠ 0 →
        (rsRead (memAddr 1 n.val false b.arr.scrubPos) 0 e).1 = .corrected →
        (t.bn u).comp n.val = { k with flips := mdel k.flips (memKey 1 false b.arr.scrubPos) })) ∧
    (b.domOn n.val = true → exec (.bankCopy u n) s = .next (s.setBn u (b.setComp n.val { k with
      tblStaged := if k.copyTbl.isSome then k.tblLive else k.tblStaged, copyTbl := none
      insStaged := if k.copyIns.isSome then k.insLive else k.insStaged, copyIns := none }))) ∧
    (∃ t, exec (.tblCrc u n) s = .next t ∧ OnlyUnit u s t ∧ (t.bn u).arr = b.arr ∧ (t.bn u).regs = b.regs ∧
      mget (t.bn u).stage.tables n.val 0 = (if b.domOn n.val then crc32Words ((List.range 2048).map (b.stagedTableWord n.val)) else 0) ∧
      mget (t.bn u).stage.tables (128 + n.val) 0 = (if b.domOn n.val then crc32Words ((List.range 2048).map (b.tableWord n.val)) else 0) ∧
      ∀ j, j ≠ n.val → j ≠ 128 + n.val → mget (t.bn u).stage.tables j 0 = mget b.stage.tables j 0)

/-! ## The front-end dies -/

namespace Sys2Proof.Claims

/-- An FV die that the variant has, with its supplies and a reference (R138). -/
def Clocked (s : State) (d : Die) : Prop :=
  s.variant.hasFv d = true ∧ (s.fv d).powered = true ∧ ((s.fv d).portA.refOn = true ∨ (s.fv d).portB.refOn = true)

/-- The command leaves one FV die as `f`, and nothing else changes. -/
def Leaves (s : State) (d : Die) (c : Instr) (f : Fv) : Prop := exec c s = .next (s.setFv d f)

/-- The thermometer of a capture at phase p: its first transition lies there (R88). -/
def thermAt (p : Nat) (x : Bool) : BitVec 32 := if x then BitVec.ofNat 32 (2 ^ p - 1) else ~~~ BitVec.ofNat 32 (2 ^ p - 1)

end Sys2Proof.Claims

/-- R57, R58, R64, R74, R83, R85, R87–R89, R92: edges: an armed channel's leading edge starts its ring with the captures; edges in the dead
time count as PILEUP and the high discriminator's firing is kept; the trailing edge stops the ring and decides the band; overflow and
saturation mark the hit. -/
def Obligations.HitCapture : Prop :=
  (∀ (p : Fin 32) (x : Bool) (P Q : BitVec 8), p.val ≠ 0 → captureV ⟨P, Q, thermAt p.val x⟩ =
    32 * (if p.val < 8 then Q.toNat else if p.val < 24 then P.toNat else (Q - 1).toNat) + p.val) ∧
  (∀ (P Q : BitVec 8), captureV ⟨P, Q, 0⟩ = 32 * Q.toNat ∧ captureV ⟨P, Q, BitVec.allOnes 32⟩ = 32 * Q.toNat) ∧
  (∀ (s : State) (d : Die) (ch : Chan) (disc : Disc) (e k : Edge) (nx : Bool) (l1 l2 l3 : Latch),
    Clocked s d → (s.fv d).chanOn ch.val = true →
    let f := s.fv d
    let c := f.chan ch.val
    let a := 8 * f.xc + e.val
    let e1 := 8 * (f.xc + b2n nx) + k.val
    let raised : ChanSt := match disc with | .hi => { c with hiUp := true } | .lo => { c with loUp := true }
    f.window = none →
    (∀ since, c.phase = .idle since → c.ring = none → since ≤ a → e1 = a + 1 ∨ e1 = a + 2 → f.safe = false → f.wasSafe = false → f.sw = none →
      disc = (if wbit (f.inForce (0x1000 + 2 * ch.val)) 6 then .hi else .lo) →
      wbit (f.inForce (0x1000 + 2 * ch.val)) (match disc with | .hi => 4 | .lo => 6) = false →
      Leaves s d (.leadingEdge d ch disc e nx k l1 l2 l3) (f.setChan ch.val { raised with
        phase := .running
        ring := some ⟨disc, a, e1, captureV l1, captureV l2, captureV l3, none, false, disc == .hi, false, false⟩ })) ∧
    (∀ since, c.phase = .idle since → c.ring = none → f.safe = true →
      Leaves s d (.leadingEdge d ch disc e nx k l1 l2 l3) (f.setChan ch.val raised)) ∧
    (∀ r, c.phase = .running → c.ring = some r → disc = r.disc → f.safe = false → f.wasSafe = false →
      wbit (f.inForce (0x1000 + 2 * ch.val)) (match disc with | .hi => 4 | .lo => 6) = false →
      Leaves s d (.leadingEdge d ch disc e nx k l1 l2 l3)
        ({ f with pileupCnt := mput f.pileupCnt ch.val (min (mget f.pileupCnt ch.val 0 + 1) 0xFFFFF) 0 }.setChan ch.val raised)) ∧
    (∀ r, c.phase = .running → c.ring = some r → r.disc = .lo → disc = .hi →
      Leaves s d (.leadingEdge d ch disc e nx k l1 l2 l3) (f.setChan ch.val { raised with ring := some { r with hiFired := true } }))) ∧
  (∀ (s : State) (d : Die) (ch : Chan) (e : Edge) (r : Ring) (l : Latch), Clocked s d →
    let f := s.fv d
    let c := f.chan ch.val
    let a := 8 * f.xc + e.val
    c.phase = .running → c.ring = some r →
    let high : Bool := decide (r.disc = .hi ∨ r.hiFired = true ∧ wbit (f.inForce (0x1000 + 2 * ch.val)) 4 = false)
    (f.sw = none → Leaves s d (.trailingEdge d ch r.disc e l) (f.setChan ch.val { c with
      hiUp := (if r.disc = .hi then false else c.hiUp), loUp := (if r.disc = .lo then false else c.loUp)
      phase := .stopped (max (r.e1 + 2) (a + 1)), ring := some { r with vT := some (captureV l), high := high } })) ∧
    Leaves s d (.ringOverflow d ch e) (f.setChan ch.val { c with
      phase := .stopped (max (r.e1 + 2) (a + 1)), ring := some { r with ovf := true, high := high } }) ∧
    (f.chanOn ch.val = true → f.frame = none → f.notices = [] →
      ∃ t n, exec (.saturation d ch e) s = .next t ∧ (∀ x, x ≠ d → t.fv x = s.fv x) ∧ t.bnA = s.bnA ∧ t.bnB = s.bnB ∧
        (t.fv d).chan ch.val = { c with ring := some { r with sat := true } } ∧
        (∀ x, x ≠ ch.val → (t.fv d).chan x = f.chan x) ∧ wbit ((t.fv d).rd (0x1001 + 2 * ch.val)) 19 = true ∧
        (t.fv d).notices = [n] ∧ n.bonbon = ch.val / 16 ∧ n.chan = ch.val % 16 ∧ (n.xc = r.e1 / 8 ∨ n.xc = r.e1 / 8 - 1)))

/-- R90–R92, R97–R99, R113: take, delivery and re-arm: the tray takes at most four waiting captures in order of readiness, computes each
8 edges later by the calibration arithmetic and enters it, and the channel re-arms at the second edge after its take. -/
def Obligations.HitDelivery : Prop :=
  (∀ scale : Bool → Nat, scale false = 0xC8000 → scale true = 0xC8000 →
    calibrate 183 480 780 (some 384) 3 false false 8 312 scale = ⟨false, 7680, 512, 300, false⟩ ∧
    (calibrate 6 306 606 (some 384) 0 false false 8 312 scale).toa = 25536 ∧
    (calibrate 6 306 606 (some 384) 0 false false 8 312 scale).back = true) ∧
  (∀ (s : State) (d : Die) (t : Tray) (e : Edge), Clocked s d → (s.fv d).sw = none →
    let f := s.fv d
    let a := 8 * f.xc + e.val
    (∀ x : Nat × Nat × Ring, x ∈ f.ready t a ↔
      ∃ c, (x.2.1, c) ∈ f.chans ∧ c.phase = .stopped x.1 ∧ c.ring = some x.2.2 ∧ x.2.1 / 256 = t.val ∧ x.1 ≤ a) ∧
    (f.ready t a).Pairwise (fun x y => x.1 < y.1 ∨ x.1 = y.1 ∧ x.2.1 ≤ y.2.1) ∧
    (∃ q, exec (.take d t e) s = .next q ∧ (∀ x, x ≠ d → q.fv x = s.fv x) ∧ q.bnA = s.bnA ∧ q.bnB = s.bnB ∧
      ((q.fv d).tray t).pipe = (f.tray t).pipe ++ ((f.ready t a).take 4).map (fun x => ⟨x.2.1, a + 8, x.2.2, f.tapped x.2.1⟩) ∧
      (∀ t', t' ≠ t → (q.fv d).tray t' = f.tray t') ∧ (q.fv d).regs = f.regs ∧
      ∀ x ∈ (f.ready t a).take 4, ((q.fv d).chan x.2.1).phase = .taken (a + 2))) ∧
  (∀ (s : State) (d : Die) (t : Tray) (e : Edge) (x : Taken) (rest : List Taken), Clocked s d → (s.fv d).sw = none →
    let f := s.fv d
    let a := 8 * f.xc + e.val
    let r := x.ring
    let period : Int := (r.v3 : Int) - r.v2
    let offset : Int := 2 * ((r.v2 : Int) - r.v1) - ((r.v3 : Int) - r.v1)
    let num : Int := (r.e1 % 8 : Nat) * period - (r.v1 + offset)
    let sw : Int := (f.rd 0x1C01).toNat
    (f.tray t).pipe = x :: rest → x.due ≤ a → x.tap = false → 272 ≤ period → period ≤ 360 →
    offset.natAbs ≤ fld (f.rd 0x1C00) 5 0 → 0 ≤ num → f.scaleFrom ≤ r.e1 / 8 → f.discards = [] → (f.tray t).hits.length < 64 → r.high = true →
    let tot : Nat := if r.sat = true ∨ r.ovf = true ∨ r.vT = none then 0x1FFF
      else if r.vT.getD 0 ≤ 1 then 0 else min (((r.vT.getD 0 : Int) * sw + 1024 * period) / (2048 * period)).toNat 0x1FFF
    let hit : Hit := ⟨x.ch, (min ((num * sw + 128 * period) / (256 * period)) 25599).toNat, tot, true, r.e1 / 8, a / 8 + 1⟩
    ∃ q, exec (.hitDelivery d t e) s = .next q ∧ (∀ y, y ≠ d → q.fv y = s.fv y) ∧ q.bnA = s.bnA ∧ q.bnB = s.bnB ∧
      (q.fv d).tray t = { f.tray t with pipe := rest, hits := (f.tray t).hits ++ [hit], peak := max (f.tray t).peak ((f.tray t).hits.length + 1) } ∧
      (∀ t', t' ≠ t → (q.fv d).tray t' = f.tray t') ∧ mget (q.fv d).lastPeriod x.ch 312 = period.toNat ∧
      (q.fv d).calfailCnt = f.calfailCnt ∧ (q.fv d).chans = f.chans ∧ (q.fv d).regs = f.regs) ∧
  (∀ (s : State) (d : Die) (ch : Chan) (e : Edge) (due : Nat), Clocked s d → (s.fv d).sw = none →
    let f := s.fv d
    let c := f.chan ch.val
    let a := 8 * f.xc + e.val
    let hi : Bool := wbit (f.inForce (0x1000 + 2 * ch.val)) 6
    c.phase = .taken due → due ≤ a →
    ((if hi then c.hiUp else c.loUp) = false →
      Leaves s d (.reArm d ch e) (f.setChan ch.val { c with phase := .idle a, ring := none })) ∧
    ((if hi then c.hiUp else c.loUp) = true → f.safe = false → f.wasSafe = false →
      wbit (f.inForce (0x1000 + 2 * ch.val)) (if hi then 4 else 6) = false →
      Leaves s d (.reArm d ch e) ({ f with orderCnt := mput f.orderCnt ch.val (min (mget f.orderCnt ch.val 0 + 1) 0xFFFFF) 0 }.setChan ch.val
        { c with phase := .blocked, ring := none })))

/-- R70, R116, R118, R128, R129, R131, R136, R192–R195: frames: one of 31 beats that names its crossing and epoch every crossing; the port set
judges it VALID, CRC, XC or ABSENT; its beats go to the arrival registers; BN frames carry LH, the crossing number and requests; requests
are served in order, checked by epoch and authority, and time out. -/
def Obligations.LigatureFrames : Prop :=
  (∀ (s : State) (d : Die), Clocked s d → (s.fv d).sw = none → (s.fv d).switchTo s.variant = none → (s.fv d).renumber = false →
    (s.fv d).oldVals = [] → (s.fv d).num < 4096 → (s.fv d).epoch < 16 →
    let f := s.fv d
    let m := f.named.getD ((f.num + 1) % 4096)
    m < 4096 →
    ∃ t fr, exec (.frameFill d) s = .next t ∧ (∀ e, e ≠ d → t.fv e = s.fv e) ∧ t.bnA = s.bnA ∧ t.bnB = s.bnB ∧
      (t.fv d).xc = f.xc + 1 ∧ (t.fv d).num = m ∧ (t.fv d).named = none ∧ (t.fv d).frame = some fr ∧ fr.xc = f.xc + 1 ∧
      fr.beats.length = 31 ∧ bitsOf (fr.beats.getD 0 0).toNat 39 28 = m ∧ bitsOf (fr.beats.getD 0 0).toNat 27 24 = f.epoch ∧
      (t.fv d).epoch = f.epoch ∧ (t.fv d).safe = f.safe ∧ (t.fv d).reqs = f.reqs ∧ (t.fv d).chans = f.chans) ∧
  (∀ (s : State) (d : Die) (x : Train), s.variant.hasFv d = true → (s.fv d).train = some x → x.next = (s.fv d).xc → (s.fv d).sw = none →
    Leaves s d (.injectionPulse d) { s.fv d with
      injPulse := true, train := if x.left ≤ 1 then none else some { x with next := x.next + x.period, left := x.left - 1 } }) ∧
  (∀ (s : State) (u : BnId) (d : Die) (others : Nat), s.hasBn u = true → s.variant.hasFv d = true → (s.bn u).domOn (159 + d.val) = true →
    (s.bn u).power.clkWait = false → ((s.bn u).ligIn d).judged ≠ some (s.bn u).xc →
    let b := s.bn u
    let x := b.time.prev % 4096
    let after := ((s.fv d).lostFrame x (b.ligIn d).lastIdx)
    (exec (.frameCheck u d none others []) s = .next (s.setBn u (((b.bumpN (0x3C11 + 4 * d.val) others 20).bump (0x3C12 + 4 * d.val)).setLig d
      { b.ligIn d with judged := some b.xc, lastIdx := after, verdict := 3, beats := [] }))) ∧
    (∀ p fr, (s.fv d).completed x (b.ligIn d).lastIdx = some fr → fr.beats.length = 31 → fr.status < 256 →
      ∃ t, exec (.frameCheck u d (some p) others []) s = .next t ∧ t.fvs = s.fvs ∧ t.bn u.other = s.bn u.other ∧
        ((t.bn u).ligIn d).judged = some b.xc ∧
        (bitsOf (fr.beats.getD 0 0).toNat 39 28 = x → ((t.bn u).ligIn d).verdict = 0 ∧ ((t.bn u).ligIn d).beats = fr.sealed ∧
          mget (t.bn u).epochSeen d.val 16 = bitsOf (fr.beats.getD 0 0).toNat 27 24) ∧
        (bitsOf (fr.beats.getD 0 0).toNat 39 28 ≠ x → ((t.bn u).ligIn d).verdict = 2 ∧ ((t.bn u).ligIn d).beats = [] ∧
          (t.bn u).epochSeen = b.epochSeen)) ∧
    (∀ p fr err, (s.fv d).completed x (b.ligIn d).lastIdx = some fr →
      let w := flipped fr.sealed err
      crc32 (dblBits (w.take 31) ++ bitsMsb (w.getD 31 0).toNat 8) ≠ bitsOf (w.getD 31 0).toNat 39 8 →
      ∃ t, exec (.frameCheck u d (some p) others err) s = .next t ∧ OnlyUnit u s t ∧ ((t.bn u).ligIn d).verdict = 1 ∧
        ((t.bn u).ligIn d).beats = [] ∧ (t.bn u).rd (0x3C10 + 4 * d.val) = satAdd (b.rd (0x3C10 + 4 * d.val)) 1 20 ∧
        (t.bn u).epochSeen = b.epochSeen)) ∧
  (∀ (s : State) (u : BnId) (d : Die) (i : Fin 31), s.hasBn u = true → s.variant.hasFv d = true → (s.bn u).power.dev = .run →
    (s.bn u).power.clkWait = false → ((s.bn u).ligIn d).judged = some (s.bn u).xc → (s.bn u).domOn (159 + d.val) = true →
    let b := s.bn u
    let g := b.ligIn d
    ∀ k j c, arrivalOf s.variant d.val i.val = some (k, j, c) → b.domOn (16 * k + j) = true → b.domOn (128 + k) = true →
      let age := bitsOf (g.beats.getD (25 + (i.val - 1) / 8) 0).toNat (39 - 5 * ((i.val - 1) % 8)) (35 - 5 * ((i.val - 1) % 8))
      let slot := 1 ≤ i.val ∧ i.val ≤ 24
      g.verdict = 0 → (slot → b.acq.inRun (b.now - 1 - age) = true) →
      let kind := if i.val = 0 then 1 else if i.val = 30 then 3 else if slot then 0 else 2
      let n := 16 * k + j
      exec (.ligatureDelivery u d i) s = .next (s.setBn u ({ b with cyc := max b.cyc c }.setComp n
        (((((b.comp n).settle (32 * b.xc + c)).setRg 29 (dhi (g.beats.getD i.val 0))).setRg 30 (dlo (g.beats.getD i.val 0))).setRg 31
          (wof (d.val * 2 ^ 17 + (if slot then age else 0) * 2 ^ 12 + kind * 2 ^ 10 + i.val * 2 ^ 5)))))) ∧
  (∀ (v : Variant) (d : Die) (i : Nat), 1 ≤ i → i ≤ 24 →
    let g := 24 * d.val + i - 1
    arrivalOf v d.val 0 = some (d.val, 15, 24) ∧ arrivalOf v d.val 30 = some (d.val, 14, 24) ∧ arrivalOf v d.val 28 = some (d.val, 13, 25) ∧
      arrivalOf v d.val 29 = some (d.val, 12, 25) ∧
      arrivalOf v d.val i = some (match v with
        | .sln2 => (0, g % 16, 12 + g / 2)
        | .sln4 => (g / 16, g % 16, 12 + g % 16 / 2)
        | .sln8 => (g % 8, g / 8 % 16, 12 + g / 8 / 2))) ∧
  (∀ (s : State) (d : Die) (u : BnId), s.variant.hasFv d = true → s.hasBn u = true → (s.bn u).domOn (159 + d.val) = true →
    (s.bn u).power.clkWait = false → ((s.bn u).ligIn d).sentAt ≠ some (s.bn u).xc → (s.bn u).nextReq d = none →
    (s.fv d).powered = true → ((s.fv d).port u).refOn = true → (s.bn u).stage.armedTag < 64 →
    let b := s.bn u
    let f := s.fv d
    ∃ t, exec (.bnFrameReceive d u []) s = .next t ∧ t.bn u.other = s.bn u.other ∧ (∀ e, e ≠ d → t.fv e = s.fv e) ∧
      t.bn u = b.setLig d { b.ligIn d with sentAt := some b.xc } ∧
      ((t.fv d).port u).got = some b.holds ∧ ((t.fv d).port u).lh = b.holds ∧ (t.fv d).port u.other = f.port u.other ∧
      (t.fv d).reqs = f.reqs ∧ (t.fv d).chans = f.chans ∧ (t.fv d).safe = f.safe ∧
      (u = f.refPort → b.now % 4096 ≠ f.num → (t.fv d).named = some (b.now % 4096)) ∧
      (u ≠ f.refPort → (t.fv d).named = f.named ∧ (t.fv d).regs = f.regs ∧ (t.fv d).armed = f.armed) ∧
      (u = f.refPort → b.announces = true → (t.fv d).armed = some (b.stage.armedTag, b.stage.armedN % 4096))) ∧
  (∀ (s : State) (d : Die) (r : FvReq) (rest : List FvReq), Clocked s d → (s.fv d).served ≠ some (s.fv d).xc →
    (s.fv d).replies.length < 8 → (s.fv d).reqs = r :: rest →
    let f := { s.fv d with reqs := rest, served := some (s.fv d).xc }
    let answer (g : Fv) (st : Status) (w : Word) : Fv := { g with replies := g.replies ++ [⟨r.port, r.tag, st, w, r.xc + 2⟩] }
    (r.epoch ≠ f.epoch → Leaves s d (.requestServe d) (f.bump 0x2803 1)) ∧
    (r.epoch = f.epoch → r.op = 0 → Leaves s d (.requestServe d) (answer (f.read s.variant d r.off).1 (f.read s.variant d r.off).2.1 (f.read s.variant d r.off).2.2)) ∧
    (r.epoch = f.epoch → r.op ≠ 0 → r.auth = false → Leaves s d (.requestServe d) (answer f .notActive 0)) ∧
    (r.epoch = f.epoch → r.op = 1 → r.auth = true → Leaves s d (.requestServe d) (answer (f.write s.variant r.off r.data).1 (f.write s.variant r.off r.data).2 0)) ∧
    (r.epoch = f.epoch → r.op = 2 → r.auth = true → Leaves s d (.requestServe d) (answer (f.stage r.off r.data).1 (f.stage r.off r.data).2 0))) ∧
  (∀ (s : State) (u : BnId) (d : Die) (r : BnReq) (rest : List BnReq) (t : Nat), s.hasBn u = true → (s.bn u).reqs = r :: rest → r.die = d →
    r.sent = some t → t + 64 ≤ (s.bn u).xc →
    let b := { s.bn u with reqs := rest }
    (r.owner = .none → exec (.requestTimeout u d) s = .next (s.setBn u b)) ∧
    (∀ tag off left acc kept, r.owner = .job → b.job = some (.read tag d off left acc kept) →
      exec (.requestTimeout u d) s = .next (s.setBn u ({ b with job := none }.reply tag 0x04 .timeout acc))))

namespace Sys2Proof.Claims

/-- A unit that may write an FV die: it holds a lease and its port is the die's reference port (R24, R132). -/
def Governs (s : State) (u : BnId) (d : Die) : Prop := (s.bn u).holds = true ∧ (s.fv d).refPort = u

/-- A die and a unit that the variant has, the die with its supplies. -/
def Reaches (s : State) (u : BnId) (d : Die) : Prop := s.hasBn u = true ∧ s.variant.hasFv d = true ∧ (s.fv d).powered = true

/-- A write of a unit leaves the die as `f` and the unit with the status of the access; nothing else changes. -/
def Writes (s : State) (u : BnId) (d : Die) (c : Instr) (f : Fv) (st : Status) : Prop :=
  exec c s = .next ((s.setFv d f).setBn u { s.bn u with last := st })

/-- SAFE entered with a cause (R137, R138; log entry 22). -/
def madeSafe (f : Fv) (cause : Nat) : Fv :=
  { f with safe := true, wasSafe := true, safeCause := if f.safe then f.safeCause else cause, train := none }

end Sys2Proof.Claims

/-- R94, R100, R101, R133, R135, R137, R138, R144, R451: the reference and the parameters of an FV die: SAFE on silence, on the clock
loss line and on the loss of the reference of the reference port, whose switch ends on the other port with eight periods lost; a new
scale at a multiple of 1024; an announced impress at its crossing; a phase measured at a multiple of 1024. -/
def Obligations.FvReference : Prop :=
  (∀ (s : State) (d : Die), Clocked s d →
    let f := s.fv d
    (1024 ≤ f.silent → Leaves s d (.keepalive d) (madeSafe f 1)) ∧
    (f.silent < 1024 → exec (.keepalive d) s = .next s) ∧
    (∀ u, (s.bn u).power.clkLossOut = true → f.refPort ≠ u →
      Leaves s d (.clockLossLine d u) (f.setPort u { f.port u with clkLoss := true })) ∧
    (∀ u, (s.bn u).power.clkLossOut = true → f.refPort = u →
      Leaves s d (.clockLossLine d u) (madeSafe (f.setPort u { f.port u with clkLoss := true }) 2)) ∧
    (∀ u, (f.port u).refOn = true →
      let lost : Fv := f.setPort u { f.port u with
        refOn := false, trained := false, wasTrained := (f.port u).trained || (f.port u).wasTrained, got := none }
      (f.refPort ≠ u → (f.port u.other).refOn = true → Leaves s d (.refloss d u) lost) ∧
      (f.refPort = u → (f.port u.other).refOn = true →
        Leaves s d (.refloss d u) { madeSafe lost 3 with reflossAsk := some u.other }) ∧
      (f.refPort = u → (f.port u.other).refOn = false →
        Leaves s d (.refloss d u) { madeSafe lost 3 with reflossAsk := none, renumber := true })) ∧
    (∀ x, f.sw = some x → x.restarted = false → f.xc = x.first + 1 →
      ∃ t, exec (.tdcRestart d) s = .next t ∧ t.bnA = s.bnA ∧ t.bnB = s.bnB ∧ (∀ e, e ≠ d → t.fv e = s.fv e) ∧
        (t.fv d).refPort = x.port ∧ (t.fv d).sw = some { x with restarted := true } ∧ (t.fv d).regs = f.regs ∧ (t.fv d).safe = f.safe ∧
        (∀ q, (t.fv d).tray q = { f.tray q with
          pipe := (f.tray q).pipe.map (fun y => if 8 * x.first + 4 < y.due then { y with due := y.due + 8 } else y) }) ∧
        (∀ ch r, (f.chan ch).phase = .running → (f.chan ch).ring = some r →
          ((t.fv d).chan ch).phase = .stopped (max (r.e1 + 2) (8 * x.first + 12)) ∧
            ∃ r', ((t.fv d).chan ch).ring = some r' ∧ r'.ovf = true ∧ r'.e1 = r.e1) ∧
        (∀ ch, (f.chan ch).phase ≠ .running → (t.fv d).chan ch = f.chan ch)) ∧
    (∀ w, f.scalePend = some w → f.num % 1024 = 0 →
      ∃ t, exec (.scaleApply d) s = .next t ∧ t.bnA = s.bnA ∧ t.bnB = s.bnB ∧ (∀ e, e ≠ d → t.fv e = s.fv e) ∧
        (t.fv d).rd 0x1C01 = w ∧ (t.fv d).rd 0x1C02 = wof f.num ∧ (∀ o, o ≠ 0x1C01 → o ≠ 0x1C02 → (t.fv d).rd o = f.rd o) ∧
        (t.fv d).scalePend = none ∧ (t.fv d).scalePrev = f.rd 0x1C01 ∧ (t.fv d).scaleFrom = f.xc ∧ (t.fv d).chans = f.chans) ∧
    (f.num % 1024 ≠ 0 → exec (.scaleApply d) s = .next s) ∧
    (∀ tag n, f.armed = some (tag, n) → f.num = n → f.staged = [] →
      ∃ t, exec (.fvImpress d) s = .next t ∧ t.bnA = s.bnA ∧ t.bnB = s.bnB ∧ (∀ e, e ≠ d → t.fv e = s.fv e) ∧
        (t.fv d).armed = none ∧ (t.fv d).lastTag = tag ∧ (t.fv d).regs = f.regs ∧ (t.fv d).doms = f.doms ∧ (t.fv d).safe = f.safe ∧
        ∀ fr, f.frame = some fr → fr.xc = f.xc → (t.fv d).frame = some { fr with status := fr.status ||| 4 }) ∧
    (∀ tag n w, f.armed = some (tag, n) → f.num = n → ∀ c : Chan, f.staged = [(0x1000 + 2 * c.val, w)] →
      (f.dom (64 + c.val / 16)).power = .on →
      ∃ t, exec (.fvImpress d) s = .next t ∧ t.bnA = s.bnA ∧ t.bnB = s.bnB ∧ (t.fv d).armed = none ∧ (t.fv d).staged = [] ∧
        (t.fv d).rd (0x1000 + 2 * c.val) = (f.rd (0x1000 + 2 * c.val) &&& 0x0008F#20) ||| (w &&& 0xFFF70#20) ∧
        (∀ o, o ≠ 0x1000 + 2 * c.val → (t.fv d).rd o = f.rd o)) ∧
    (∀ tag n, f.armed = some (tag, n) → f.num ≠ n → exec (.fvImpress d) s = .next s) ∧
    (∀ (q : Tray) (first : BnId) (near : Bool) (a b c e : Latch), f.num % 1024 = 0 →
      Leaves s d (.phaseMeasurement d q first near a b c e) (f.setTray q { f.tray q with
        phasePend := some (f.xc + 2, f.phaseWord s.variant first near (Config.routeSkew d q) a b c e) }) ∧
      (s.variant = .sln2 ∨ f.portA.refOn = false ∨ f.portB.refOn = false →
        f.phaseWord s.variant first near (Config.routeSkew d q) a b c e = 0))) ∧
  (∀ (s : State) (d : Die) (u : BnId), Reaches s u d → (s.bn u).power.pllLock = true → (s.bn u).power.clkWait = false →
    let f := s.fv d
    (f.port u).refOn = false →
    ((f.port u.other).refOn = true → Leaves s d (.referenceReturn d u) (f.setPort u { f.port u with refOn := true })) ∧
    ((f.port u.other).refOn = false → Leaves s d (.referenceReturn d u) { f.setPort u { f.port u with refOn := true } with
      refPort := u, renumber := true, named := none, sw := none }))

/-- R24, R65, R109, R110, R132, R140, R146–R148, R476, R494: what the accesses of a unit do on an FV die: none without a lease or from
the other port; counting runs; the impress bank emptied; SAFE cleared where no cause persists; a domain asked on or off; the counters of
a block cleared; the counter window moved by a read, by every unit. -/
def Obligations.FvAccesses : Prop :=
  (∀ (s : State) (u : BnId) (d : Die), Reaches s u d → ¬ Governs s u d →
    let turned (c : Instr) : Prop := exec c s = .next (s.setBn u { s.bn u with last := .notActive })
    (∀ sel len, turned (.countRunStart u d sel len) ∧ turned (.countRunStop u d sel len)) ∧ turned (.fvImpressDiscard u d) ∧
      turned (.safeClear u d) ∧ (∀ n req, turned (.fdomReq u d n req)) ∧ ∀ blk, turned (.cntClear (.fv u d blk))) ∧
  (∀ (s : State) (u : BnId) (d : Die), Reaches s u d → Governs s u d →
    let f := s.fv d
    let word (sel : Bool) (len : BitVec 16) : Nat := b2n sel * 2 ^ 18 + len.toNat
    (∀ sel, Writes s u d (.countRunStart u d sel 0) f .range ∧ Writes s u d (.countRunStop u d sel 0) f .range) ∧
    (∀ sel len, len ≠ 0 → wbit (f.rd 0x080A) 19 = true → Writes s u d (.countRunStart u d sel len) f .ok) ∧
    (∀ sel len, len ≠ 0 → wbit (f.rd 0x080A) 19 = false → fld (f.rd 0x080A) 17 16 = 0 →
      ∃ g, Writes s u d (.countRunStart u d sel len) g .ok ∧ g.window = some (f.xc + 1, f.xc + 1 + 64 * len.toNat) ∧
        g.rd 0x080A = wof (2 ^ 19 + word sel len) ∧ (∀ c : Chan, fld (g.rd (0x1001 + 2 * c.val)) 15 0 = 0) ∧
        (∀ o, o ≠ 0x080A → (∀ c : Chan, o ≠ 0x1001 + 2 * c.val) → g.rd o = f.rd o) ∧ g.chans = f.chans ∧ g.safe = f.safe) ∧
    (∀ sel len, len ≠ 0 → fld (f.rd 0x080A) 17 16 = 0 →
      ∃ g, Writes s u d (.countRunStop u d sel len) g .ok ∧ g.window = none ∧ g.rd 0x080A = wof (word sel len) ∧
        (∀ o, o ≠ 0x080A → g.rd o = f.rd o) ∧ g.chans = f.chans ∧ g.safe = f.safe) ∧
    Writes s u d (.fvImpressDiscard u d) { f with staged := [], armed := none } .ok ∧
    (f.safe = true → f.silent < 1024 → (f.port u).clkLoss = false → (f.port u).refOn = true →
      Writes s u d (.safeClear u d) { f with safe := false } .ok) ∧
    (f.safe = true → 1024 ≤ f.silent → Writes s u d (.safeClear u d) { f with safeCause := 1 } .ok) ∧
    (∀ (n : Fin 135) req, 132 ≤ n.val → Writes s u d (.fdomReq u d n req) f .readOnly) ∧
    (∀ (n : Fin 135) p, n.val < 132 → fvParent n.val = some p → f.req s.variant p = false → Writes s u d (.fdomReq u d n true) f .denied) ∧
    (∀ (n : Fin 135) p, n.val < 132 → fvParent n.val = some p → f.req s.variant p = true →
      ∃ g, Writes s u d (.fdomReq u d n true) g .ok ∧ g.req s.variant n.val = true ∧
        (∀ o, o ≠ 0x2400 + n.val → g.rd o = f.rd o) ∧ g.doms = f.doms) ∧
    (∀ n : Fin 135, n.val < 132 → ∃ g, Writes s u d (.fdomReq u d n false) g .ok ∧
        (∀ k, k = n.val ∨ k ∈ fvBelow n.val → g.req s.variant k = false) ∧
        (∀ o, o ≠ 0x2400 + n.val → (∀ k ∈ fvBelow n.val, o ≠ 0x2400 + k) → g.rd o = f.rd o) ∧ g.doms = f.doms) ∧
    (∃ g, Writes s u d (.cntClear (.fv u d .tdc)) g (if fld (f.rd 0x1C00) 5 0 = 0 then .range else .ok) ∧
      (fld (f.rd 0x1C00) 5 0 ≠ 0 → g.orderCnt = [] ∧ g.pileupCnt = [] ∧ g.calfailCnt = [] ∧
        (∀ o ∈ [0x1C0C, 0x1C0D, 0x1C0E, 0x1C0F], g.rd o = 0) ∧ g.chans = f.chans)) ∧
    (∃ g, Writes s u d (.cntClear (.fv u d .tray)) g .ok ∧ (∀ q, g.tray q = { f.tray q with peak := 0 }) ∧
      (∀ o ∈ [0x2000, 0x2001, 0x2002, 0x2003, 0x2004, 0x2005, 0x2006, 0x2007, 0x200D, 0x200E, 0x200F], g.rd o = 0) ∧ g.chans = f.chans) ∧
    (∃ g, Writes s u d (.cntClear (.fv u d .ligature)) g .ok ∧ (∀ o ∈ [0x2801, 0x2802, 0x2803], g.rd o = 0) ∧
      (∀ o, o ∉ [0x2801, 0x2802, 0x2803] → g.rd o = f.rd o))) ∧
  (∀ (s : State) (d : Die) (a b : Nat), s.variant.hasFv d = true → (s.fv d).window = some (a, b) → b ≤ (s.fv d).xc →
    Leaves s d (.countWindowEnd d) ({ s.fv d with window := none }.wr 0x080A (setFld ((s.fv d).rd 0x080A) 19 19 0))) ∧
  (∀ (s : State) (u : BnId) (d : Die), Reaches s u d →
    let f := s.fv d
    let sel := f.rd 0x1C04
    (f.dom (64 + fld sel 9 0 / 16)).power = .on →
    (wbit sel 10 = true → Writes s u d (.calfailCntAutoInc u d) (f.wr 0x1C04 (setFld sel 9 0 ((fld sel 9 0 + 1) % 1024))) .ok) ∧
    (wbit sel 10 = false → Writes s u d (.calfailCntAutoInc u d) f .ok))

/-! ## Lanes -/

namespace Sys2Proof.Claims

/-- A lane of a present unit that the variant has, with its supply (R366, R470). -/
def LaneOn (s : State) (u : BnId) (l : Lane) : Prop :=
  s.hasBn u = true ∧ (s.variant = .sln2 → l.val < 5) ∧ (s.bn u).domOn (152 + l.val) = true

/-- What an assertion of LOL counts and shows, in the words of the lane after and before (R373). -/
def LolCounted (b b' : Bn) (l : Lane) : Prop :=
  b'.rd (0x1C16 + 8 * l.val) = (if (b.lane l).lol then b.rd (0x1C16 + 8 * l.val) else satAdd (b.rd (0x1C16 + 8 * l.val)) 1 20) ∧
    ((b.lane l).lol = false → wbit (b'.rd (0x1C10 + 8 * l.val)) 13 = true)

end Sys2Proof.Claims

/-- R368, R371, R373, R382, R485: the detectors of the lanes: LOS and LOL counted when they assert, cleared when lock is back; block lock
gained after 64 good blocks and lost with 16 bad ones of 64; a burst ends with content; eight bursts of the wake pattern wake a die. -/
def Obligations.LaneDetectors : Prop :=
  (∀ (s : State) (u : BnId) (l : Lane), LaneOn s u l →
    let b := s.bn u
    let x := b.lane l
    let rx := l.val = 4 ∨ l.val = 6
    let becomes (c : Instr) (y : LaneSt) : Prop := exec c s = .next (s.setBn u (b.setLane l y))
    let others (t : State) : Prop := OnlyUnit u s t ∧ (∀ k, k ≠ l → (t.bn u).lane k = b.lane k) ∧
      (∀ o, o ≠ 0x1C10 + 8 * l.val → o ≠ 0x1C15 + 8 * l.val → o ≠ 0x1C16 + 8 * l.val → (t.bn u).rd o = b.rd o) ∧ (t.bn u).time = b.time
    (rx → x.los = false → ∃ t, exec (.los u l true) s = .next t ∧ others t ∧ LolCounted b (t.bn u) l ∧
      (t.bn u).lane l = { x with los := true, blockLock := false, goodRun := 0, recent := [], lol := true } ∧
      (t.bn u).rd (0x1C15 + 8 * l.val) = satAdd (b.rd (0x1C15 + 8 * l.val)) 1 20 ∧ wbit ((t.bn u).rd (0x1C10 + 8 * l.val)) 14 = true) ∧
    (rx → x.los = true → exec (.los u l true) s = .next s) ∧
    (rx → becomes (.los u l false) { x with los := false }) ∧
    (¬ rx → ∀ on, exec (.los u l on) s = .next s) ∧
    (∃ t, exec (.lol u l true) s = .next t ∧ others t ∧ LolCounted b (t.bn u) l ∧
      (rx → (t.bn u).lane l = { x with cdrLock := false, lol := true }) ∧ (¬ rx → (t.bn u).lane l = { x with fault := true, lol := true })) ∧
    (rx → becomes (.lol u l false) { x with cdrLock := true, lol := x.lol && !(x.blockLock && !x.los) }) ∧
    (¬ rx → x.lol = true → x.st = .idle → becomes (.lol u l false) { x with lol := false }) ∧
    (¬ rx → x.lol = true → x.st ≠ .idle → becomes (.lol u l false)
      { x with lol := false, st := .training, trainEnd := b.xc + 1 + (if l.val < 4 then 13 else 32), fault := true }) ∧
    (rx → x.los = false → x.blockLock = false → x.goodRun < 63 →
      becomes (.blockLock u l true) { x with goodRun := x.goodRun + 1, recent := (true :: x.recent).take 64 }) ∧
    (rx → x.los = false → x.blockLock = false → 63 ≤ x.goodRun →
      becomes (.blockLock u l true) { x with goodRun := 64, recent := (true :: x.recent).take 64, blockLock := true, lol := x.lol && !x.cdrLock }) ∧
    (rx → x.los = false → x.blockLock = true → 16 ≤ ((false :: x.recent).take 64).countP (fun v => !v) →
      ∃ t, exec (.blockLock u l false) s = .next t ∧ others t ∧ LolCounted b (t.bn u) l ∧
        (t.bn u).lane l = { x with blockLock := false, goodRun := 0, recent := [], lol := true }) ∧
    (x.st = .training → x.trainEnd ≤ b.xc →
      becomes (.trainingBurstEnd u l) { x with st := if wbit (b.rd (0x1C11 + 8 * l.val)) 19 then .prbs else .active }) ∧
    (x.st = .training → b.xc < x.trainEnd → exec (.trainingBurstEnd u l) s = .next s)) ∧
  (∀ (s : State) (u : BnId) (active : Bool) (k : Nat), s.hasBn u = true → (s.bn u).power.dev = .sleep →
    let n := (s.bn u).power.bursts
    let counts (m : Nat) : Prop :=
      exec (.wakePattern u active k) s = .next (s.setBn u { s.bn u with power := { (s.bn u).power with bursts := m } })
    (k < 12 ∨ 24 < k → counts 0) ∧
    (12 ≤ k → k ≤ 24 → active = decide (n % 2 = 0) → n < 14 → counts (n + 1)) ∧
    (12 ≤ k → k ≤ 24 → active = true → n = 14 → ∃ t, exec (.wakePattern u active k) s = .next t ∧ (t.bn u).power.dev = .boot ∧
      t.bn u.other = s.bn u.other ∧ (t.bn u).sess.slotsA = (s.bn u).sess.slotsA))

/-- R388–R392: the test patterns: where a generator or a checker may run and what starts and ends it; the checker locks on a word that
matches and counts mismatched bits, dropping lock at 32 of one word; injected bits reach a checker that reads its own generator. -/
def Obligations.LanePatterns : Prop :=
  (∀ (s : State) (u : BnId) (l : Lane) (v : Word), Works s u → s.variant = .sln2 → 5 ≤ l.val → ∀ n : BitVec 8, ∀ both,
    let absent (c : Instr) : Prop := exec c s = .next (s.setBn u { s.bn u with last := .badAddress })
    absent (.genEn u l v) ∧ absent (.chkEn u l v) ∧ absent (.injBurst u l n) ∧ absent (.injOne u l both)) ∧
  (∀ (s : State) (u : BnId) (l : Lane), Works s u → (s.variant = .sln2 → l.val < 5) →
    let b := s.bn u
    let x := b.lane l
    let cfg := b.rd (0x1C11 + 8 * l.val)
    let perr (c : Bn) : Nat := (c.rd (0x1C13 + 8 * l.val)).toNat * 2 ^ 20 + (c.rd (0x1C14 + 8 * l.val)).toNat
    let rx := l.val = 4 ∨ l.val = 6
    let free := (b.power.dev = .ready ∨ b.power.dev = .minimal) ∧ b.acq.phase = .idle
    let refused (c : Instr) (st : Status) : Prop := exec c s = .next (s.setBn u { b with last := st })
    let stop (d : Nat) : Option Nat := if d = 0 then none else some (b.xc + d * 1024)
    let others (t : State) : Prop := OnlyUnit u s t ∧ (∀ k, k ≠ l → (t.bn u).lane k = b.lane k) ∧
      (∀ o, ¬ (0x1C11 + 8 * l.val ≤ o ∧ o ≤ 0x1C14 + 8 * l.val) → (t.bn u).rd o = b.rd o) ∧ (t.bn u).acq = b.acq
    (∀ v, ¬ rx → ¬ free → refused (.genEn u l v) .denied) ∧
    (∀ v, rx → wbit v 15 = false → ¬ free → refused (.chkEn u l v) .denied) ∧
    (∀ v, l.val = 0 → free → fld v 13 8 = 0 → refused (.genEn u l v) .range) ∧
    (∀ v, l.val = 4 → wbit v 15 = false → free → fld v 13 8 = 0 → refused (.chkEn u l v) .range) ∧
    (∀ v, ¬ rx → free → (l.val = 0 → fld v 13 8 ≠ 0) → x.st ≠ .idle → ∃ t, exec (.genEn u l v) s = .next t ∧ others t ∧
      (t.bn u).last = .ok ∧ wbit ((t.bn u).rd (0x1C11 + 8 * l.val)) 19 = true ∧ ((t.bn u).lane l).st = .prbs ∧
      ((t.bn u).lane l).prbsEnd = stop (fld v 13 8)) ∧
    (∀ v, rx → wbit v 15 = false → free → (l.val = 4 → fld v 13 8 ≠ 0) → wbit cfg 18 = false → ∃ t, exec (.chkEn u l v) s = .next t ∧
      others t ∧ (t.bn u).last = .ok ∧ wbit ((t.bn u).rd (0x1C11 + 8 * l.val)) 18 = true ∧ perr (t.bn u) = 0 ∧
      (t.bn u).lane l = { x with st := .prbs, chkLock := false, prbsEnd := stop (fld v 13 8) }) ∧
    (∀ e, x.prbsEnd = some e → b.xc < e → exec (.prbsDurEnd u l) s = .next s) ∧
    (∀ e, x.prbsEnd = some e → e ≤ b.xc → ¬ rx → x.st = .prbs → ∃ t, exec (.prbsDurEnd u l) s = .next t ∧ others t ∧
      (t.bn u).rd (0x1C11 + 8 * l.val) = setFld cfg 19 18 0 ∧ (t.bn u).lane l = { x with
        prbsEnd := none, chkLock := false, inject := 0, st := .training
        trainEnd := b.xc + 1 + (if l.val < 4 then 13 else 32), fault := true }) ∧
    (∀ m : BitVec 64, wbit cfg 18 = false ∨ ¬ rx ∧ wbit cfg 15 = false → exec (.checkerLock u l m) s = .next s) ∧
    (∀ m : BitVec 64, wbit cfg 18 = true → rx ∨ wbit cfg 15 = true → x.inject = 0 → x.chkLock = false →
      exec (.checkerLock u l m) s = .next (s.setBn u (b.setLane l { x with chkLock := decide (m = 0) }))) ∧
    (∀ m : BitVec 64, wbit cfg 18 = true → rx ∨ wbit cfg 15 = true → x.inject = 0 → x.chkLock = true → perr b ≤ 0xFFFFFFFF →
      let n := ones m.toNat 64
      ∃ t, exec (.checkerLock u l m) s = .next t ∧ others t ∧ perr (t.bn u) = min (perr b + n) 0xFFFFFFFF ∧
        (t.bn u).lane l = { x with chkLock := decide (n < 32) }) ∧
    (wbit cfg 19 = true → wbit cfg 18 = true → wbit cfg 15 = true → x.inject ≤ 31 → x.chkLock = true → perr b ≤ 0xFFFFFFFF →
      ∃ t, exec (.checkerLock u l 0) s = .next t ∧ others t ∧ perr (t.bn u) = min (perr b + x.inject) 0xFFFFFFFF ∧
        (t.bn u).lane l = { x with inject := 0 }) ∧
    refused (.injOne u l true) .range ∧ refused (.injBurst u l 0) .range ∧
    (wbit cfg 19 = false → refused (.injOne u l false) .denied ∧ ∀ n : BitVec 8, n ≠ 0 → refused (.injBurst u l n) .denied) ∧
    (wbit cfg 19 = true →
      let waits (k : Nat) : Nat := if wbit cfg 18 = true ∧ wbit cfg 15 = true then x.inject + k else 0
      (∃ t, exec (.injOne u l false) s = .next t ∧ others t ∧ (t.bn u).last = .ok ∧ (t.bn u).lane l = { x with inject := waits 1 }) ∧
      ∀ n : BitVec 8, n ≠ 0 → ∃ t, exec (.injBurst u l n) s = .next t ∧ others t ∧ (t.bn u).last = .ok ∧
        (t.bn u).lane l = { x with inject := waits n.toNat }))

/-! ## What happens at a boundary -/

namespace Sys2Proof.Claims

/-- The control word of a block, and the counters that its CNT_CLEAR clears (R332, R364, R392, R426, R459, R492, R493, R539). -/
def counters : List (CntBlock × Nat × List Nat) :=
  [(.power, 0x1001, [0x1008, 0x1009, 0x100B, 0x100C]), (.clock, 0x1408, [0x1402, 0x1406, 0x1407]),
    (.lanes, 0x1C01, [0x1C02, 0x1C03, 0x1C04, 0x1C05, 0x1C06, 0x1C07, 0x1C08, 0x1C15, 0x1C16, 0x1C1D, 0x1C1E, 0x1C25, 0x1C26, 0x1C2D,
      0x1C2E, 0x1C35, 0x1C36, 0x1C3D, 0x1C3E, 0x1C45, 0x1C46]),
    (.lease, 0x2018, [0x2011, 0x2013, 0x2014, 0x2015, 0x2016, 0x2017]), (.acq, 0x241E, [0x2419, 0x241A, 0x241B, 0x241C, 0x241D]),
    (.sheet, 0x2807, [0x2804, 0x2805, 0x2806]), (.therm, 0x3411, [0x340D, 0x340E, 0x340F, 0x3410]), (.boot, 0x0C08, [0x0C04])]

end Sys2Proof.Claims

/-- R24, R261, R293, R297, R324, R326, R332, R451: at a boundary: the armed bank becomes live and empty at its crossing; a queue is
flushed at the crossing that its flush named; the water flags with their hysteresis and the rate level; the cut step; and the counters
of a block cleared by its CNT_CLEAR. -/
def Obligations.BoundaryWork : Prop :=
  ∀ (s : State) (u : BnId), Works s u →
    let b := s.bn u
    (b.stage.st ≠ .armed ∨ b.now < b.stage.armedN → exec (.impressApply u) s = .next s) ∧
    (∀ off m w, (off, m) ∈ plainWords → b.asleep off = false → b.failedBlock off = false → b.stage.st = .armed →
      b.stage.armedN ≤ b.now → b.stage.armedN < 2 ^ 48 → b.stage.words = [(off, w)] → b.stage.formeIn = false → b.stage.fvWords = [] →
      b.arr.comps = [] → (∀ n, (b.dom n).woken = false) → b.lease.join.y = none → b.lease.role ≠ .cold →
      ∃ t, exec (.impressApply u) s = .next t ∧ OnlyUnit u s t ∧
        (t.bn u).rd off = (b.rd off &&& ~~~ wof m) ||| (w &&& wof m) ∧ (t.bn u).rd 0x080B = wof b.stage.armedTag ∧
        (t.bn u).rdXc 0x080C = b.stage.armedN ∧ (∀ o, o ≠ off → ¬ (0x080B ≤ o ∧ o < 0x080F) → (t.bn u).rd o = b.rd o) ∧
        (t.bn u).stage.st = .empty ∧ (t.bn u).stage.words = [] ∧ (t.bn u).stage.missFrom = some b.stage.armedN ∧
        (t.bn u).loader = b.loader ∧ (t.bn u).gal = b.gal ∧ (t.bn u).acq = b.acq) ∧
    (∀ q : Fin 64, (q.val, b.now) ∉ b.gal.flushes → exec (.queueFlushApply u q) s = .next s) ∧
    (∀ q : Fin 64, (q.val, b.now) ∈ b.gal.flushes →
      let x := b.queue q.val
      ∃ t, exec (.queueFlushApply u q) s = .next t ∧ OnlyUnit u s t ∧
        (t.bn u).queue q.val = { Queue.empty with mode := if 0 < x.openLen then .cut else x.mode, flushed := true, above := false } ∧
        (∀ k, k ≠ q.val → (t.bn u).queue k = b.queue k) ∧ (∀ c ∈ x.cells, c.addr ∈ (t.bn u).gal.free) ∧
        (∀ a ∈ b.gal.free, a ∈ (t.bn u).gal.free) ∧ (q.val, b.now) ∉ (t.bn u).gal.flushes ∧ (t.bn u).regs = b.regs) ∧
    (b.acq.lvlAt = some b.xc → exec (.waterMarks u) s = .next s) ∧
    (b.acq.lvlAt ≠ some b.xc → ∃ t, exec (.waterMarks u) s = .next t ∧ OnlyUnit u s t ∧
      let c := t.bn u
      (c.rd 0x2C04).toNat = b.watchOcc % 2 ^ 20 ∧
      (∀ k, 1 ≤ k → k ≤ 3 → wbit (c.rd 0x2C0B) (k - 1) = (decide ((b.rd (0x2C03 + 2 * k)).toNat ≤ b.watchOcc) ||
        (!decide (b.watchOcc ≤ (b.rd (0x2C04 + 2 * k)).toNat) && wbit (b.rd 0x2C0B) (k - 1)))) ∧
      c.acq.level = max (fld (b.rd 0x2413) 1 0) (if wbit (b.rd 0x2413) 19 = false then 0 else
        if wbit (c.rd 0x2C0B) 2 then 3 else if wbit (c.rd 0x2C0B) 1 then 2 else if wbit (c.rd 0x2C0B) 0 then 1 else 0) ∧
      (∀ k, k < 3 → c.rd (0x241B + k) = if b.power.dev = .run ∧ k + 1 ≤ c.acq.level then satAdd (b.rd (0x241B + k)) 1 20 else b.rd (0x241B + k)) ∧
      (∀ o, o ≠ 0x2C04 → o ≠ 0x2C0B → ¬ (0x241B ≤ o ∧ o < 0x241E) → c.rd o = b.rd o) ∧ c.gal = b.gal ∧ c.power = b.power) ∧
    (let a := b.acq
      let base := (b.rd 0x2414).toNat
      let step := (b.rd 0x2415).toNat
      let dwell := (b.rd 0x2416).toNat
      let top := (b.rd 0x2417).toNat
      let goes (n : Nat) : Prop := ∃ t, exec (.cutStep u) s = .next t ∧ OnlyUnit u s t ∧ (t.bn u).acq.cutN = n ∧
        (t.bn u).acq.totcut = min (base + n * step) top ∧ (t.bn u).rd 0x2418 = wof (min (base + n * step) top) ∧
        (n ≠ a.cutN → (t.bn u).acq.cutAt = some b.xc) ∧ (∀ o, o ≠ 0x2418 → (t.bn u).rd o = b.rd o)
      (b.power.dev ≠ .run → goes a.cutN) ∧
      (b.power.dev = .run → a.cutAt ≠ some b.xc → 2 ≤ a.level → a.prevLevel < 2 → base + a.cutN * step < top → goes (a.cutN + 1)) ∧
      (∀ x, b.power.dev = .run → a.cutAt = some x → x < b.xc → b.xc - x < dwell → a.level < 2 ∨ 2 ≤ a.prevLevel → goes a.cutN) ∧
      (∀ x, b.power.dev = .run → a.cutAt = some x → x < b.xc → dwell ≤ b.xc - x → 2 ≤ a.level → base + a.cutN * step < top →
        goes (a.cutN + 1)) ∧
      (∀ x, b.power.dev = .run → a.cutAt = some x → x < b.xc → dwell ≤ b.xc - x → a.level < 2 → 0 < a.cutN → goes (a.cutN - 1)) ∧
      (b.power.dev = .run → 2 ≤ a.level → top ≤ base + a.cutN * step → goes a.cutN)) ∧
    (∀ blk off l, (blk, off, l) ∈ counters → b.asleep off = false → b.failedBlock off = false →
      ∃ t, exec (.cntClear (.bn u blk)) s = .next t ∧ OnlyUnit u s t ∧ (t.bn u).last = .ok ∧
        (∀ o, (t.bn u).rd o = if o ∈ l then bnDef o else b.rd o) ∧ (t.bn u).gal = b.gal ∧ (t.bn u).lanes = b.lanes ∧
        (t.bn u).time = b.time ∧ (t.bn u).power = b.power)

/-- R284, R299, R301, R302, R304: the scrubs of the galley: the background scrub visits cells in address order, mends what the code can
correct, and waits while a commanded scrub runs; a commanded scrub ends with its last cell and a summary. -/
def Obligations.GalleyScrub : Prop :=
  ∀ (s : State) (u : BnId), Works s u →
    let b := s.bn u
    let r := b.rd 0x2C12
    let on := (List.range 16).all (fun i => b.domOn (136 + i)) = true
    (wbit r 19 = false ∨ b.gal.scrub ≠ none → exec (.backgroundScrub u) s = .next s) ∧
    (wbit r 19 = true → b.gal.scrub = none → on → ∃ t, exec (.backgroundScrub u) s = .next t ∧ OnlyUnit u s t ∧
      (b.gal.scrubPos < 0x40000 → (t.bn u).gal.scrubPos = (b.gal.scrubPos + fld r 5 0) % 0x40000) ∧
      (t.bn u).gal.queues = b.gal.queues ∧ (t.bn u).gal.free = b.gal.free ∧ (t.bn u).stage = b.stage ∧ (t.bn u).acq = b.acq ∧
      (∀ a, (b.cell a).valid = 7 → (b.cell a).flips = 0 → ((t.bn u).cell a) = b.cell a)) ∧
    (∀ e, wbit r 19 = true → b.gal.scrub = none → on → fld r 5 0 = 1 →
      let a := b.gal.scrubPos
      let c := b.cell a
      a % 4 ≠ 0 → c.valid = 7 → c.flips = e → e ≠ 0 → (rsRead (addrCell a) c.data e).1 = .corrected →
      exec (.backgroundScrub u) s = .next (s.setBn u ((b.setCell a { c with flips := 0 }).mapGal (fun g =>
        { g with scrubPos := (a + 1) % 0x40000 })))) ∧
    (b.gal.scrub = none → exec (.scrubComplete u) s = .next s) ∧
    (∀ c, b.gal.scrub = some c → c.next ≤ c.last → c.last < 0x40000 →
      ∃ t, exec (.scrubComplete u) s = .next t ∧ OnlyUnit u s t ∧ (t.bn u).gal.scrub = none ∧ (t.bn u).gal.queues = b.gal.queues ∧
        (t.bn u).gal.scrubPos = b.gal.scrubPos ∧ wbit ((t.bn u).rd 0x2C13) 18 = true ∧ wbit ((t.bn u).rd 0x2C13) 19 = false ∧
        (t.bn u).gal.free = b.gal.free ∧ (t.bn u).stage = b.stage ∧
        ((∀ a, c.next ≤ a → a ≤ c.last → (b.cell a).isValid = false) → (∀ a, b.linkOutcome a = .clean) → c.last - c.next < 0x1000 →
          b.rd 0x2C14 = 0 → (t.bn u).rd 0x2C14 = wof (c.last - c.next + 1) ∧ (t.bn u).rd 0x2C15 = b.rd 0x2C15))

/-! ## Runs and sheets -/

/-- R184, R309–R311, R326, R332, R337, R402, R411: a run starts at the boundary of S with cleared compositors, no cut, LAG 0, TX_NEXT S and
ACK_SEQ S − 1; it drains from E on and ends STOP_DRAIN crossings later, with the forme's queues flushed and TAIL kept. -/
def Obligations.RunStartsAndEnds : Prop :=
  ∀ (s : State) (u : BnId), s.hasBn u = true →
    let b := s.bn u
    (b.acq.phase ≠ .startPend ∨ b.now ≠ b.acq.s → exec (.runStart u) s = .next s) ∧
    (b.acq.phase = .startPend → b.now = b.acq.s → b.power.dev = .ready → b.power.clkWait = false →
      ∃ t, exec (.runStart u) s = .next t ∧ OnlyUnit u s t ∧ (t.bn u).power = { b.power with dev := .run } ∧
        (t.bn u).acq = { b.acq with
          phase := .run, sXc := b.xc, cutN := 0, cutAt := some b.xc, totcut := min (b.rd 0x2414).toNat (b.rd 0x2417).toNat } ∧
        (t.bn u).rd 0x2009 = wof b.now ∧ (t.bn u).rd 0x2008 = wof b.now - 1 ∧ (t.bn u).rd 0x200A = 0 ∧ (t.bn u).rd 0x200E = 0 ∧
        (t.bn u).rd 0x200F = 0 ∧ wbit ((t.bn u).rd 0x2801) 19 = wbit (b.rd 0x2800) 19 ∧
        fld ((t.bn u).rd 0x2801) 2 0 = fld (b.rd 0x2800) 2 0 ∧ (t.bn u).sheets.asms = [] ∧ (t.bn u).sheets.firstSeq = none ∧
        (t.bn u).stage.restoreArmed = false ∧ (t.bn u).gal = b.gal ∧ (t.bn u).time = b.time ∧ (t.bn u).arr.jwords = [] ∧
        (∀ o, o ∉ [0x2009, 0x2008, 0x200A, 0x200B, 0x200E, 0x200F, 0x2418, 0x2801] → (t.bn u).rd o = b.rd o) ∧
        (b.stage.restoreArmed = false → ∀ n, ((t.bn u).comp n).g = [] ∧ ((t.bn u).comp n).a0 = 0 ∧ ((t.bn u).comp n).a1 = 0 ∧
          ((t.bn u).comp n).p = 0 ∧ ((t.bn u).comp n).flight = []) ∧
        (b.stage.restoreArmed = true → (t.bn u).arr.comps = b.arr.comps)) ∧
    (b.acq.phase = .stopPend → b.acq.e ≤ b.now → b.power.dev = .run →
      exec (.drain u) s = .next (s.setBn u { b with acq := { b.acq with phase := .drain } })) ∧
    (b.acq.phase ≠ .stopPend ∨ b.now < b.acq.e → exec (.drain u) s = .next s) ∧
    (b.acq.phase = .drain → b.power.dev = .run → b.acq.e + (b.rd 0x240B).toNat ≤ b.now →
      ∃ t, exec (.drainEnd u) s = .next t ∧ OnlyUnit u s t ∧ (t.bn u).power = { b.power with dev := .ready } ∧
        (t.bn u).acq = { b.acq with phase := .idle } ∧ (t.bn u).arr.jwords = [] ∧
        (∀ q, q < 64 → b.reader q = false ∧ q ≠ 34 ∧ qReserved q = false →
          ((t.bn u).queue q).cells = [] ∧ ((t.bn u).queue q).flushed = true) ∧
        (∀ q, b.reader q = true ∨ q = 34 ∨ qReserved q = true → (t.bn u).queue q = b.queue q) ∧
        wbit ((t.bn u).rd 0x2401) 16 = (decide (0 < b.watchOcc) || wbit (b.rd 0x2401) 16) ∧
        (∀ o, o ≠ 0x2401 → (t.bn u).rd o = b.rd o) ∧ (t.bn u).sheets = b.sheets ∧ (t.bn u).time = b.time) ∧
    (b.acq.phase ≠ .drain ∨ b.now < b.acq.e + (b.rd 0x240B).toNat → exec (.drainEnd u) s = .next s)

/-- R298, R334, R335, R338–R341, R347, R348, R364, R409, R410: in RUN each crossing assembles the sheet of the crossing PRIM_LAT earlier and
stores it in its slot; what leaves on the lanes is the held sheet at TX_NEXT, marked when it is late, or a status sheet. -/
def Obligations.Sheets : Prop :=
  ∀ (s : State) (u : BnId), s.hasBn u = true →
    let b := s.bn u
    let lanes := fld (b.rd 0x2801) 2 0
    let comp := wbit (b.rd 0x2801) 19
    let n := b.now + 1 - b.primLat
    let sends := b.power.dev.runsPackets = true ∧ b.power.clkWait = false ∧ (b.lane 0).st = .active ∧ b.sheets.sentAt ≠ some b.xc
    (b.power.dev ≠ .run → exec (.sheetAssembly u) s = .next s) ∧
    (∀ a, b.asmAt b.xc = some a → exec (.sheetAssembly u) s = .next s) ∧
    (b.power.dev = .run → b.power.clkWait = false → b.asmAt b.xc = none → b.now + 1 < b.acq.s + b.primLat →
      b.arr.jwords ≠ [] ∨ b.std = none →
      exec (.sheetAssembly u) s = .next (s.setBn u { b with arr := { b.arr with jwords := [] } })) ∧
    (b.power.dev = .run → b.power.clkWait = false → b.asmAt b.xc = none → b.acq.s + b.primLat ≤ b.now + 1 →
      b.arr.jwords ≠ [] ∨ b.std = none → b.holds = false →
      let y := bodyOf lanes comp b.arr.jwords
      let w1 := wof (n % 2 ^ 16)
      let w2 := wof (y.bits.length * 2 ^ 8 + b2n comp * 128 + b2n y.key * 64 + b2n y.overrun)
      ∃ t, exec (.sheetAssembly u) s = .next t ∧ OnlyUnit u s t ∧ (t.bn u).rd 0x2802 = wof n ∧
        (t.bn u).rd 0x2803 = wof y.bits.length ∧ (t.bn u).rd 0x2804 = wof (max (b.rd 0x2804).toNat y.bits.length) ∧
        (t.bn u).rd 0x2805 = (if y.overrun then satAdd (b.rd 0x2805) 1 20 else b.rd 0x2805) ∧
        (t.bn u).rd 0x2806 = (if y.key then satAdd (b.rd 0x2806) 1 20 else b.rd 0x2806) ∧
        (t.bn u).rd 0x2C1C = wof n ∧ (t.bn u).rd 0x2C1D = wof (min 2048 ((b.rd 0x2C1D).toNat + 1)) ∧
        (∀ o, ¬ (0x2802 ≤ o ∧ o ≤ 0x2806) → o ≠ 0x2C1C → o ≠ 0x2C1D → (t.bn u).rd o = b.rd o) ∧
        (t.bn u).sheets.asms.getLast? = some ⟨b.xc, wof n, sheetCheck (wof n) w1 w2 y.prim y.bits, b.lease.role == .active, b.lease.role == .shadow⟩ ∧
        (1 ≤ lanes → ((t.bn u).cell (0x30000 + 32 * ((wof n).toNat % 2048))).d0 = dbl (wof n) w1 ∧
          ((t.bn u).cell (0x30000 + 32 * ((wof n).toNat % 2048))).valid = 7) ∧
        (t.bn u).gal.queues = b.gal.queues ∧ (t.bn u).arr.jwords = [] ∧ (t.bn u).acq = b.acq ∧ (t.bn u).time = b.time) ∧
    (∀ k, b.power.dev = .run → b.power.clkWait = false → b.asmAt b.xc = none → b.acq.s + b.primLat ≤ b.now + 1 →
      b.arr.jwords = [] → b.std = some k →
      ∃ t a, exec (.sheetAssembly u) s = .next t ∧ OnlyUnit u s t ∧ (t.bn u).rd 0x2802 = wof n ∧
        (t.bn u).sheets.asms.getLast? = some a ∧ a.seq = wof n) ∧
    (¬ sends → exec (.sheetTransmit u) s = .next s) ∧
    (sends → b.power.after = [] → b.holds = false ∨ b.hoPause = true ∨ b.lanesReady = false →
      ∃ t, exec (.sheetTransmit u) s = .next t ∧ OnlyUnit u s t ∧ (t.bn u).sheets.sentAt = some b.xc ∧
        (t.bn u).sheets.sent.length = 32 ∧ (t.bn u).sheets.sent.take 2 = [wof b.time.prev, wof (2 ^ 16 + b.time.prev % 2 ^ 16)] ∧
        (t.bn u).sheets.sent.getD 3 0 = wof (b.lease.role.code * 2 ^ 16 + b.power.dev.code * 2 ^ 13 + b.acq.phase.code * 2 ^ 10 +
          b.time.step * 2 ^ 8 + b2n (decide (s.variant = .sln2) || b.xl.down) * 2 ^ 7 + b2n b.lease.diverge * 2 ^ 6 + b2n b.loader.live * 2 ^ 5) ∧
        ((t.bn u).lane 0).fault = false) ∧
    (sends → b.power.after = [] → b.holds = true → b.hoPause = false → b.lanesReady = true → b.power.runBefore = false →
      b.rd 0x2C1D ≠ 0 → older (b.rd 0x2008) (b.rd 0x2009) = true → older (b.rd 0x2C1C) (b.rd 0x2009) = false →
      b.isHeld (b.rd 0x2009) = true → b.sheets.tkR = false → b.sheets.hold = false → b.sheets.dreq = none → s.variant ≠ .sln2 →
      let x := b.rd 0x2009
      let ws := (b.fetchSheet x lanes).2
      ∃ t, exec (.sheetTransmit u) s = .next t ∧ OnlyUnit u s t ∧ (t.bn u).sheets.sentAt = some b.xc ∧
        (t.bn u).sheets.sent = (if older x (b.due b.now) then ws.set 2 (setFld (ws.getD 2 0) 4 4 1) else ws) ∧
        (t.bn u).rd 0x2009 = x + 1 ∧ (t.bn u).rd 0x200A = b.due b.now - x ∧ (t.bn u).rd 0x2008 = b.rd 0x2008 ∧
        (∀ l : Lane, l.val < 4 → l.val < lanes → ((t.bn u).lane l).fault = false))

/-! ## The pair: cross-link, anchors, shadow entry, handover -/

namespace Sys2Proof.Claims

/-- A unit of a pair that runs its crossings (R393). -/
def Paired (s : State) (u : BnId) : Prop :=
  s.variant ≠ .sln2 ∧ (s.bn u).power.dev.crosses = true ∧ (s.bn u).power.clkWait = false

/-- The unit queues one CONTROL message for its frames (R384, R421). -/
def ctlMsg (b : Bn) (code crossing arg : Nat) : XLink :=
  { b.xl with ctl := b.xl.ctl ++ [2 * 2 ^ 180 + code * 2 ^ 176 + crossing % 2 ^ 48 * 2 ^ 128 + arg % 2 ^ 128] }

/-- The entry of a unit with another account of it (R416-R418). -/
def joining (b : Bn) (j : Joining) : LeaseSt := { b.lease with join := j }

/-- A unit fails its own check (R403), the first mismatched sheet assembled in `a1`. -/
def FailsCheck (b : Bn) (a1 : Nat) : Prop :=
  (b.rd 0x3C03).toNat < b.xc - a1 + 8 ∨ wbit (b.rd 0x2C01) 17 = true ∨
    ∃ n, n < 128 ∧ b.used n = true ∧ wbit (b.rd (0x3D00 + n)) 15 = true

end Sys2Proof.Claims

/-- R386, R387, R401–R404: a cross-link frame is judged: block lock, block types and CRC first, then its crossing, then its window; a good one
is used, and compares the checks of the sheet of two crossings ago; the mismatch that makes MISMATCH_RUN reach M evaluates. XLINK_DOWN
is set on silence, LOS or LOL, and clears after 64 used frames. -/
def Obligations.CrossLink : Prop :=
  ∀ (s : State) (u : BnId), Paired s u →
    let b := s.bn u
    let lost := (b.lane 6).los = true ∨ (b.lane 6).lol = true
    (∀ (f : Nat) ok inWindow err, (s.bn u.other).frameFor b.time.prev = some f → b.xl.took = false → b.domOn 158 = true →
      (b.lane 6).los = false → (b.lane 6).st ≠ .prbs →
      let g := ((BitVec.ofNat 256 f) ^^^ err).toNat
      let c := Instr.crossLinkFrame u true ok inWindow err
      let bad := (b.lane 6).blockLock = false ∨ ok = false ∨ crc16Frame (BitVec.ofNat 256 (g / 2 ^ 16 * 2 ^ 16)) ≠ g % 2 ^ 16
      let late := g / 2 ^ 240 = b.time.prev % 2 ^ 16
      let counts (o : Nat) : Prop := exec c s = .next (s.setBn u { b.wr o (satAdd (b.rd o) 1 20) with xl := { b.xl with took := true } })
      let kept : LeaseSt := if g.testBit 236 then { b.lease with lhSeen := some b.time.prev, xOld := some (b.time.prev + 1) }
        else if b.lease.lhSeen.isSome then { b.lease with lhSeen := none, xOld := some b.time.prev } else b.lease
      let b1 : Bn := { b.wr 0x1C09 0 with xl := { b.xl with took := true, usedNow := some g }, lease := kept }
      let run := (b.rd 0x2010).toNat
      (bad → counts 0x1C05) ∧ (¬ bad → ¬ late → counts 0x1C06) ∧ (¬ bad → late → inWindow = false → counts 0x1C07) ∧
      (¬ bad → late → inWindow = true → b.asmAt (b.xc - 2) = none ∨ g.testBit 232 = false → exec c s = .next (s.setBn u b1)) ∧
      (∀ a, ¬ bad → late → inWindow = true → b.asmAt (b.xc - 2) = some a → g.testBit 232 = true →
        let fits := (a.active = true ∧ bitsOf g 239 237 = 1) ∨ (a.shadow = true ∧ bitsOf g 239 237 = 0)
        let a1 := if run = 0 then a.xc else b.lease.a1
        let M := fld (b.rd 0x2002) 3 0
        let twin := b.lease.role = .active ∨ b.lease.role = .shadow
        (¬ fits → exec c s = .next (s.setBn u b1)) ∧
        (fits → bitsOf g 231 200 = a.check → b.lease.role = .cold → exec c s = .next (s.setBn u (b1.wr 0x2010 0))) ∧
        (fits → bitsOf g 231 200 = a.check → b.lease.role ≠ .cold →
          exec c s = .next (s.setBn u { (b1.wr 0x2010 0).wr 0x200B (a.seq + 1) with lease := { kept with jvalid := true } })) ∧
        (fits → bitsOf g 231 200 ≠ a.check → ∃ t, exec c s = .next t ∧ OnlyUnit u s t ∧
          (t.bn u).rd 0x2010 = satAdd (b.rd 0x2010) 1 4 ∧ (t.bn u).rd 0x2011 = satAdd (b.rd 0x2011) 1 20 ∧
          (t.bn u).rd 0x2012 = (if run = 0 then a.seq else b.rd 0x2012) ∧ (t.bn u).lease.role = b.lease.role ∧ (t.bn u).xl = b1.xl ∧
          (∀ o, o ∉ [0x1C09, 0x2010, 0x2011, 0x2012] → (t.bn u).rd o = b.rd o) ∧
          (run + 1 ≠ M ∨ ¬ twin → (t.bn u).lease.gaveUp = b.lease.gaveUp ∧ (t.bn u).lease.next = b.lease.next ∧
            (t.bn u).lease.evalAt = b.lease.evalAt) ∧
          (run + 1 = M → twin → ¬ FailsCheck b a1 → (t.bn u).lease.evalAt = some b.xc ∧ (t.bn u).lease.gaveUp = b.lease.gaveUp ∧
            (t.bn u).lease.next = b.lease.next) ∧
          (run + 1 = M → twin → FailsCheck b a1 → (t.bn u).lease.gaveUp = true ∧ (t.bn u).lease.evalAt = b.lease.evalAt ∧
            (t.bn u).lease.next = some (if b.lease.role = .shadow then .failed else .quiet, b.xc + 1))))) ∧
    (∀ ok inWindow err, exec (.crossLinkFrame u false ok inWindow err) s = .next s) ∧
    ((b.rd 0x1C09).toNat < 16 → ¬ lost → exec (.xlinkDown u) s = .next s) ∧
    (b.xl.down = false → 16 ≤ (b.rd 0x1C09).toNat ∨ lost → ∃ t, exec (.xlinkDown u) s = .next t ∧ OnlyUnit u s t ∧
      (t.bn u).xl.down = true ∧ (t.bn u).xl.run = 0 ∧ (t.bn u).rd 0x1C08 = satAdd (b.rd 0x1C08) 1 20 ∧
      (∀ o, o ≠ 0x1C08 → (t.bn u).rd o = b.rd o) ∧ (t.bn u).lease.role = b.lease.role ∧ (t.bn u).lease.exp = b.lease.exp ∧
      (t.bn u).lease.next = (if b.lease.role = .shadow then some (.cold, b.xc + 1) else b.lease.next) ∧
      (b.lease.role = .active → (t.bn u).lease.join.y = none ∧ (t.bn u).xl.st = []) ∧
      (b.lease.role = .cold → b.lease.join.code = 2 → (t.bn u).lease.join.code = 3 ∧ (t.bn u).stage.restoreArmed = false)) ∧
    (b.xl.down = true → lost → exec (.xlinkDown u) s = .next (s.setBn u { b with xl := { b.xl with run := 0 } })) ∧
    (b.xl.down = true → 64 ≤ b.xl.run → ¬ lost → exec (.xlinkUp u) s = .next (s.setBn u { b with xl := { b.xl with down := false } })) ∧
    (b.xl.down = false ∨ b.xl.run < 64 ∨ lost → exec (.xlinkUp u) s = .next s)

/-- R171–R173, R385, R417, R448: the anchor service: in RUN the source decides for each crossing whether its sheet carries an anchor, for the
lowest of its causes, and sends it; another unit keeps its own for four crossings and takes it when no source is left. A TWIN message
goes out on a change of STAGED_CRC and every 64 crossings; STATE messages carry the transfer set, four doubles a crossing. -/
def Obligations.AnchorsAndMessages : Prop :=
  (∀ (s : State) (u : BnId), s.hasBn u = true → (s.bn u).power.dev.crosses = true → (s.bn u).power.clkWait = false →
    let b := s.bn u
    let fresh (a : Anc) : Bool := decide ((b.now + 2 ^ 48 - a.counter) % 2 ^ 48 ≤ 4)
    let due := b.anchors.due.filter fresh
    let cand := b.anchors.cand.filter fresh
    let inRun := b.power.dev = .run ∧ (b.acq.phase = .run ∨ b.now < b.acq.e)
    let seen := ∃ a ∈ due ++ cand, a.counter = b.now
    let per := b.now % 4096 = 0
    let start := b.acq.sXc = b.xc
    let role := b.holds = true ∧ (b.anchors.roleEvent.isSome = true ∨
      (b.anchors.lastSrc = some (b.unit == .a) ∧ b.anchors.timeEvent.isSome = true))
    let cause := if per then 0 else if start then 1 else if role then 2 else 3
    let some_ := per ∨ start ∨ role ∨ b.anchors.timeEvent.isSome = true
    let anc : Anc := ⟨cause, b.time.step != 2, b.time.xcSync, b.unit == .b, b.now, b.time.rate, b.time.t⟩
    let gives (x : Anchors) : Prop := exec (.anchor u) s = .next (s.setBn u { b with anchors := x })
    (∀ a ∈ cand, (a.counter + 4) % 2 ^ 48 ≠ b.now) →
    (¬ inRun ∨ seen ∨ ¬ some_ → gives { b.anchors with due := due, cand := cand }) ∧
    (inRun → ¬ seen → some_ → b.holds = false → gives { b.anchors with due := due, cand := cand ++ [anc], timeEvent := none }) ∧
    (inRun → ¬ seen → some_ → b.holds = true → exec (.anchor u) s = .next (s.setBn u { b with
      anchors := { b.anchors with due := due ++ [anc], cand := cand, lastSrc := some (b.unit == .b), timeEvent := none, roleEvent := none }
      xl := if s.variant = .sln2 then b.xl else { b.xl with anc := b.xl.anc ++ [ancMsg anc] } }))) ∧
  (∀ (s : State) (u : BnId) (a : Anc), s.hasBn u = true → (s.bn u).power.dev.crosses = true → (s.bn u).power.clkWait = false →
    let b := s.bn u
    let x := b.anchors
    x.cand = [a] → (a.counter + 4) % 2 ^ 48 = b.now → b.power.dev ≠ .run → x.due = [] →
    let partner := b.xl.down = false ∧ ∃ f, b.xl.force = some f ∧ f.testBit 236 = true
    (partner → exec (.anchor u) s = .next (s.setBn u { b with anchors := { x with cand := [] } })) ∧
    (¬ partner → exec (.anchor u) s = .next (s.setBn u { b with anchors := { x with
      cand := [], lastSrc := some a.src
      due := [{ a with cause := if x.lastSrc = some (!a.src) then 2 else a.cause }] } }))) ∧
  (∀ (s : State) (u : BnId), Paired s u →
    let b := s.bn u
    let w := b.stagedCrc false * 2 + b2n b.stagedAny
    let sent : Prop := exec (.twin u) s =
      .next (s.setBn u { b with xl := { b.xl with twin := b.xl.twin ++ [3 * 2 ^ 180 + w * 2 ^ 147], twinLast := some (w, b.xc) } })
    let j := b.lease.join
    (b.xl.twinLast = none → sent) ∧ (∀ v x, b.xl.twinLast = some (v, x) → v ≠ w ∨ x + 64 ≤ b.xc → sent) ∧
    (∀ x, b.xl.twinLast = some (w, x) → b.xc < x + 64 → exec (.twin u) s = .next s) ∧
    (∀ y, j.y = some y → b.holds = true → b.xl.down = false → y ≤ b.now → j.outIdx < j.count → b.xl.st = [] →
      exec (.state u) s = .next (s.setBn u { b with
        lease := joining b { j with outIdx := j.outIdx + 4 }
        xl := { b.xl with st := [4 * 2 ^ 180 + j.outIdx * 2 ^ 160 + (b.transferSet.getD j.outIdx 0).toNat * 2 ^ 120 +
          (b.transferSet.getD (j.outIdx + 1) 0).toNat * 2 ^ 80 + (b.transferSet.getD (j.outIdx + 2) 0).toNat * 2 ^ 40 +
          (b.transferSet.getD (j.outIdx + 3) 0).toNat] } })) ∧
    ((∀ y, j.y = some y → b.now < y) ∨ b.holds = false ∨ b.xl.down = true ∨ j.count ≤ j.outIdx → exec (.state u) s = .next s))

/-- R415–R418, R421: shadow entry: a COLD unit that wants it asks; the ACTIVE unit agrees and names Y, or defers with the first reason that
holds; it names L after the last double; the joining unit gives up when it must; at L both keep their state for the next start and the
joining unit is SHADOW with the pointers and the compositors of the partner. -/
def Obligations.ShadowEntry : Prop :=
  ∀ (s : State) (u : BnId), Paired s u →
    let b := s.bn u
    let j := b.lease.join
    let idle := (b.power.dev = .ready ∨ b.power.dev = .doze) ∧ b.acq.phase = .idle
    let prefers := wbit (b.rd 0x2001) 18 = true ∧ wbit (b.rd 0x2001) 19 = (b.unit == .b)
    let asks := b.lease.role = .cold ∧ j.code ≠ 2 ∧ (j.wanted = true ∨ (prefers ∧ b.lease.gaveUp = false)) ∧
      (∀ x, j.askAt = some x → x + 1024 ≤ b.xc) ∧ idle ∧ b.stage.st ≠ .armed ∧ b.xl.down = false
    let asked (arg : Nat) : Prop := b.holds = true ∧ b.xl.down = false ∧ ∃ k, b.ctlNow = some (1, k, arg)
    let reason (arg : Nat) : Nat := if bitsOf arg 127 96 ≠ b.liveHdrCrc then 1 else if bitsOf arg 95 64 ≠ b.liveCrc false then 2
      else if ¬ idle then 3 else if b.stage.st = .armed then 4 else 0
    let dropped : Joining := { j with y := none, outIdx := 0, count := 0, l := none }
    let aborted : Bn := { b with
      lease := joining b { j with code := 3, y := none, got := [], count := 0, l := none }
      stage := { b.stage with restoreArmed := false } }
    let gives (c : Instr) (l : Joining) (x : XLink) : Prop := exec c s = .next (s.setBn u { b with lease := joining b l, xl := x })
    (asks → gives (.entryAsk u) { j with askAt := some b.xc, code := 1 }
      (ctlMsg b 1 b.now (b.liveHdrCrc * 2 ^ 96 + b.liveCrc false * 2 ^ 64))) ∧
    (¬ asks → exec (.entryAsk u) s = .next s) ∧
    (∀ arg, asked arg →
      (reason arg = 0 → gives (.entry u) { j with y := some (b.now + 16), outIdx := 0, count := b.setSize, l := none }
        (ctlMsg b 2 (b.now + 16) (b.setSize * 2 ^ 108)) ∧ exec (.entryDefer u) s = .next s) ∧
      (reason arg ≠ 0 → exec (.entry u) s = .next s ∧
        exec (.entryDefer u) s = .next (s.setBn u { b with xl := ctlMsg b 3 b.now (reason arg * 2 ^ 124) }))) ∧
    ((∀ arg, ¬ asked arg) → exec (.entry u) s = .next s ∧
      (b.holds = true → j.y.isSome = true → ¬ idle →
        gives (.entryDefer u) dropped { ctlMsg b 3 b.now (3 * 2 ^ 124) with st := [] }) ∧
      (b.holds = true → j.y.isSome = true → idle → b.stage.st = .armed →
        gives (.entryDefer u) dropped { ctlMsg b 3 b.now (4 * 2 ^ 124) with st := [] })) ∧
    (b.holds = true → b.xl.down = false → j.y.isSome = true → j.l = none → j.count ≤ j.outIdx → b.xl.st = [] →
      gives (.lock u) { j with l := some (b.now + 8) } (ctlMsg b 4 (b.now + 8) 0)) ∧
    (b.holds = false ∨ b.xl.down = true ∨ j.y = none ∨ j.l.isSome = true ∨ j.outIdx < j.count → exec (.lock u) s = .next s) ∧
    (b.lease.role = .cold → j.code = 2 →
      (¬ idle ∨ b.xl.down = true → exec (.entryAbort u) s = .next (s.setBn u aborted)) ∧
      (∀ y, j.y = some y → j.l = none → y + (j.count + 3) / 4 - 1 + 2 + 16 < b.now →
        exec (.entryAbort u) s = .next (s.setBn u aborted)) ∧
      (idle → b.xl.down = false → j.l.isSome = true → exec (.entryAbort u) s = .next s)) ∧
    (b.lease.role ≠ .cold ∨ j.code ≠ 2 → exec (.entryAbort u) s = .next s) ∧
    (j.l = some b.now → b.xl.down = false → b.holds = true → exec (.shadowEntryEnd u) s =
      .next (s.setBn u { b with lease := joining b .none, stage := { b.stage with restoreArmed := true } })) ∧
    (j.l ≠ some b.now ∨ b.xl.down = true → exec (.shadowEntryEnd u) s = .next s) ∧
    (j.l = some b.now → b.xl.down = false → b.lease.role = .cold → j.code = 2 →
      let d (i : Nat) : Dbl := mget j.got i (b.transferSet.getD i 0)
      ∃ t, exec (.shadowEntryEnd u) s = .next t ∧ OnlyUnit u s t ∧ (t.bn u).lease.role = .shadow ∧ (t.bn u).lease.shadowSince = b.xc ∧
        (t.bn u).lease.join = .none ∧ (t.bn u).lease.exp = b.lease.exp ∧ (t.bn u).stage = { b.stage with restoreArmed := true } ∧
        (t.bn u).rd 0x2008 = dlo (d 0) ∧ (t.bn u).rd 0x2009 = dhi (d 1) ∧ (t.bn u).time = b.time ∧ (t.bn u).power = b.power ∧
        (t.bn u).acq = b.acq ∧ (∀ k n, b.useMask[k]? = some n →
          (t.bn u).comp n = (b.comp n).ofDoubles (fun i => d (66 + 22 * k + i))) ∧
        ∀ n, n ∉ b.useMask → (t.bn u).comp n = b.comp n)

/-- R394, R395, R412, R414, R415, R421: a planned handover: HANDOVER at K + 1, ACCEPT at K + 3, COMMIT at K + 5 with EXP, TX_NEXT and
ACK_SEQ; at H the holder is SHADOW and the claimant, with the commitment, ACTIVE; what does not come about is counted by the holder. A
lease that has expired leaves the unit QUIET; a preferred SHADOW unit raises its claim. -/
def Obligations.HandoverAndExpiry : Prop :=
  ∀ (s : State) (u : BnId), Paired s u →
    let b := s.bn u
    let l := b.lease
    let failed : Bn := { b.wr 0x2017 (satAdd (b.rd 0x2017) 1 20) with lease := { l with ho := none } }
    let gives (c : Instr) (h : Handover) (x : XLink) : Prop :=
      exec c s = .next (s.setBn u { b with lease := { l with ho := some h }, xl := x })
    let claims := l.role = .shadow ∧ wbit (b.rd 0x2001) 18 = true ∧ wbit (b.rd 0x2001) 19 = (b.unit == .b) ∧
      l.shadowSince + (b.rd 0x2004).toNat ≤ b.xc ∧ (b.rd 0x2004).toNat ≤ (b.rd 0x3C03).toNat
    (∀ h, l.ho = some h →
      (b.holds = true → h.k + 1 = b.xc → h.asked = false →
        let shows := b.xl.down = false ∧ ∃ f, b.xl.force = some f ∧ bitsOf f 239 237 = 1
        (shows → gives (.handover u) { h with asked := true } (ctlMsg b 5 h.h ((b.rd 0x2009).toNat * 2 ^ 108))) ∧
        (¬ shows → exec (.handover u) s = .next (s.setBn u failed))) ∧
      (b.holds = false ∨ h.k + 1 ≠ b.xc ∨ h.asked = true → exec (.handover u) s = .next s) ∧
      (let accepts := l.role = .shadow ∧ h.k = b.xc ∧ h.accepted = false ∧ l.gaveUp = false ∧ b.rd 0x2010 = 0 ∧
        ∀ f, b.sheets.firstSeq = some f → older h.tx f = false
       (accepts → gives (.accept u) { h with accepted := true } (ctlMsg b 6 h.h 0)) ∧ (¬ accepts → exec (.accept u) s = .next s)) ∧
      (b.holds = true → h.k + 5 = b.xc → h.committed = none →
        (h.accepted = true → gives (.commit u) { h with committed := some (l.exp, b.rd 0x2009, b.rd 0x2008) }
          (ctlMsg b 7 h.h (l.exp % 2 ^ 48 * 2 ^ 80 + (b.rd 0x2009).toNat * 2 ^ 60 + (b.rd 0x2008).toNat * 2 ^ 40))) ∧
        (h.accepted = false → exec (.commit u) s = .next (s.setBn u failed))) ∧
      (b.holds = false ∨ h.k + 5 ≠ b.xc ∨ h.committed.isSome = true → exec (.commit u) s = .next s) ∧
      (h.h ≠ b.now → exec (.handoverEnd u) s = .next s) ∧
      (h.h = b.now → h.committed = none →
        exec (.handoverEnd u) s = .next (s.setBn u { b with lease := { l with ho := none } })) ∧
      (∀ exp tx ack, h.h = b.now → h.committed = some (exp, tx, ack) → l.role = .active →
        ∃ t, exec (.handoverEnd u) s = .next t ∧ OnlyUnit u s t ∧ (t.bn u).lease.role = .shadow ∧ (t.bn u).lease.shadowSince = b.xc ∧
          (t.bn u).lease.ho = none ∧ (t.bn u).holds = false ∧ (t.bn u).rd 0x2016 = satAdd (b.rd 0x2016) 1 20 ∧
          (∀ o, o ≠ 0x2016 → (t.bn u).rd o = b.rd o) ∧ (t.bn u).reqs = b.reqs ∧ (t.bn u).sheets = b.sheets) ∧
      (∀ exp tx ack, h.h = b.now → h.committed = some (exp, tx, ack) → l.role = .shadow →
        let old := b.due ((h.h + 2 ^ 48 - 2) % 2 ^ 48)
        ∃ t, exec (.handoverEnd u) s = .next t ∧ OnlyUnit u s t ∧ (t.bn u).lease.role = .active ∧ (t.bn u).lease.exp = exp ∧
          (t.bn u).lease.released = false ∧ (t.bn u).lease.ho = none ∧ (t.bn u).rd 0x2008 = ack ∧ (t.bn u).rd 0x2009 = tx ∧
          (t.bn u).rd 0x200D = tx ∧ (t.bn u).rd 0x200E = (if older tx old then old else tx) ∧ (t.bn u).rd 0x200F = 0 ∧
          (t.bn u).rd 0x200C = wof (3 * 2 ^ 18 + 2 ^ 16 + b.now % 2 ^ 16) ∧ (t.bn u).rd 0x2016 = satAdd (b.rd 0x2016) 1 20 ∧
          (∀ o, o ∉ [0x2008, 0x2009, 0x200C, 0x200D, 0x200E, 0x200F, 0x2016] → (t.bn u).rd o = b.rd o) ∧
          (t.bn u).reqs = b.reqs ++ s.dies.map (fun d => ⟨d, 0, 0x0400, 0, .safeRead, b.xc, none, 0, 0⟩) ∧
          (t.bn u).anchors.roleEvent = some b.now)) ∧
    (l.role = .active → l.exp < b.now → ∃ t, exec (.leaseExpiry u) s = .next t ∧ OnlyUnit u s t ∧ (t.bn u).lease.role = .quiet ∧
      (t.bn u).lease.ho = none ∧ (t.bn u).rd 0x2015 = satAdd (b.rd 0x2015) 1 20 ∧ (∀ o, o ≠ 0x2015 → (t.bn u).rd o = b.rd o) ∧
      (t.bn u).acq = b.acq ∧ (t.bn u).power = b.power ∧ (t.bn u).arr = b.arr) ∧
    (l.role ≠ .active ∨ b.now ≤ l.exp → exec (.leaseExpiry u) s = .next s) ∧
    (claims → exec (.claim u) s = .next (s.setBn u { b with lease := { l with claim := true } })) ∧
    (¬ claims → exec (.claim u) s = .next s)

/-! ## Power states, clocks, the pantry, always-on timers -/

namespace Sys2Proof.Claims

/-- An accepted entry into DOZE or SLEEP whose crossing has come (R478). -/
def EntryNow (s : State) (u : BnId) (doze : Bool) : Prop :=
  s.hasBn u = true ∧ (s.bn u).power.clkWait = false ∧ ((s.bn u).power.dev = .ready ∨ (s.bn u).power.dev = .run) ∧
    ∃ e x, (s.bn u).power.entry = some e ∧ e.doze = doze ∧ e.d = some x ∧ x ≤ (s.bn u).xc

/-- The domains that DOZE retains (R480). -/
def Dozes (b : Bn) (n : Nat) : Prop := n ∈ b.liveDoms ∨ (136 ≤ n ∧ n < 152) ∨ n = 165 ∨ (152 ≤ n ∧ n < 156)

end Sys2Proof.Claims

/-- R480–R482, R487: DOZE: at D the domains of the forme, the galley, the justifier and the uplink are retained, what was in flight has
landed, the holder reads the bias of each FV die and the pantry's copies are kept; it ends two crossings after the limit of a run, or
at its X: the domains are ON again, the unit is as before, a run has its gap named, the holder writes the biases back. -/
def Obligations.Doze : Prop :=
  ∀ (s : State) (u : BnId),
    let b := s.bn u
    let latched := b.power.wakeLatched
    (EntryNow s u true → ∃ t, exec (.dozeEntry u) s = .next t ∧ OnlyUnit u s t ∧
      (t.bn u).power.dev = .doze ∧ (t.bn u).power.runBefore = (b.power.dev == .run) ∧ (t.bn u).power.entry = none ∧
      (t.bn u).power.dozeD = b.xc ∧ (t.bn u).power.dozeX = (if latched then some (b.xc + 2) else none) ∧
      (t.bn u).power.wakeLatched = false ∧ (t.bn u).rd 0x1003 = wof b.now ∧ (t.bn u).rd 0x1008 = satAdd (b.rd 0x1008) 1 20 ∧
      (t.bn u).rd 0x1000 = (if latched then setFld (b.rd 0x1000) 16 16 1 else b.rd 0x1000) ∧
      (t.bn u).rd 0x1007 = wof (s.dies.map (fun d => fld (b.pw ((pantryFv d 0x0808).getD 0)) 1 0 * 4 ^ d.val)).sum ∧
      (∀ o, o ∉ [0x1000, 0x1003, 0x1007, 0x1008] → (t.bn u).rd o = b.rd o) ∧
      (∀ n, Dozes b n → (b.dom n).power = .on → (t.bn u).dom n = { b.dom n with power := .retained, isolated := true }) ∧
      (∀ n, ¬ Dozes b n ∨ (b.dom n).power ≠ .on → (t.bn u).dom n = b.dom n) ∧
      (∀ l : Lane, l.val < 4 → (t.bn u).lane l = { b.lane l with st := .idle, lol := true, fault := true }) ∧
      (∀ l : Lane, 4 ≤ l.val → (t.bn u).lane l = b.lane l) ∧ (∀ n, ((t.bn u).comp n).flight = []) ∧
      (t.bn u).reqs = b.reqs ++ (if b.holds then s.dies.map (fun d => ⟨d, 0, 0x0808, 0, .dozeRead, b.xc, none, 0, 0⟩) else []) ∧
      (t.bn u).gal = b.gal ∧ (t.bn u).lease = b.lease ∧ (t.bn u).time = b.time ∧ (t.bn u).sess = b.sess ∧ (t.bn u).stage = b.stage) ∧
    (∀ x, s.hasBn u = true → b.power.dev = .doze → b.power.clkWait = false → b.power.dozeX = some x → x ≤ b.xc →
      let ran := b.power.runBefore
      let word (d : Die) : Word := wof (fld (b.rd 0x1007) (2 * d.val + 1) (2 * d.val))
      ∃ t, exec (.dozeExit u) s = .next t ∧ OnlyUnit u s t ∧ (t.bn u).power.dev = (if ran then .run else .ready) ∧
        (t.bn u).power.dozeX = none ∧ (t.bn u).rd 0x1004 = wof b.now ∧
        (t.bn u).rd 0x1005 = (if ran then b.rd 0x1003 - wof b.primLat + 1 else b.rd 0x1005) ∧
        (t.bn u).rd 0x1006 = (if ran then wof b.now - wof b.primLat else b.rd 0x1006) ∧
        (∀ o, o ∉ [0x1004, 0x1005, 0x1006] → (t.bn u).rd o = b.rd o) ∧
        (∀ n, (t.bn u).dom n = if (b.dom n).power = .retained then { b.dom n with power := .on, isolated := false } else b.dom n) ∧
        (t.bn u).reqs = b.reqs ++ (if b.holds then s.dies.map (fun d => ⟨d, 1, 0x0808, word d, .none, b.xc, none, 0, 0⟩) else []) ∧
        (t.bn u).gal = b.gal ∧ (t.bn u).arr = b.arr ∧ (t.bn u).lanes = b.lanes ∧ (t.bn u).acq = b.acq) ∧
    (∀ x, b.power.dozeX = some x → b.xc < x → exec (.dozeExit u) s = .next s) ∧ (b.power.dozeX = none → exec (.dozeExit u) s = .next s) ∧
    (let limit := s.hasBn u = true ∧ b.power.dev = .doze ∧ b.power.runBefore = true ∧ b.power.dozeX = none ∧
      b.power.dozeD + (b.rd 0x1002).toNat ≤ b.xc + 1
     (limit → exec (.dozeLimit u) s = .next (s.setBn u { b.wr 0x1000 (setFld (b.rd 0x1000) 14 14 1) with
        power := { b.power with dozeX := some (b.xc + 2) } })) ∧
     (¬ limit → exec (.dozeLimit u) s = .next s))

/-- R382, R484–R487: SLEEP: at D everything but the always-on set is at its reset state, with the pantry, the keys and the lockouts kept and
no role; eight bursts, each pair separated by a gap, wake the die, which then boots along the wake sequence with cause WAKE; a run outside the limits
starts the count again, and a pattern complete while an entry is under way is latched. -/
def Obligations.Sleep : Prop :=
  ∀ (s : State) (u : BnId), s.hasBn u = true →
    let b := s.bn u
    (EntryNow s u false → b.power.wakeLatched = false → b.boot.outcome ≠ 0 →
      ∃ t, exec (.sleepEntry u) s = .next t ∧ OnlyUnit u s t ∧ (t.bn u).power.dev = .sleep ∧ (t.bn u).power.doms = [] ∧
        (t.bn u).lease.role = .none ∧ (t.bn u).acq.phase = .idle ∧ (t.bn u).sess.level = .open ∧
        (t.bn u).sess.lockA = b.sess.lockA ∧ (t.bn u).sess.lockB = b.sess.lockB ∧ (t.bn u).sess.slotsA = b.sess.slotsA ∧
        (t.bn u).sess.slotsB = b.sess.slotsB ∧ (t.bn u).pantry = b.pantry ∧ (∀ o, (t.bn u).rd o = bnDef o) ∧
        (t.bn u).gal.queues = [] ∧ (t.bn u).loader.live = false ∧ (t.bn u).stage.st = .empty ∧ (t.bn u).time.step = 0 ∧
        (t.bn u).boot.straps = b.boot.straps) ∧
    (let wakes := b.power.dev = .sleep ∨ ∃ e, b.power.entry = some e ∧ e.doze = false
     let n := b.power.bursts
     let good (samples : Nat) : Prop := 12 ≤ samples ∧ samples ≤ 24
     let counted (c : Instr) (k : Nat) : Prop := exec c s = .next (s.setBn u { b with power := { b.power with bursts := k } })
     (¬ wakes → ∀ a k, exec (.wakePattern u a k) s = .next s) ∧
     (wakes → ∀ a k, ¬ good k → counted (.wakePattern u a k) 0) ∧
     (wakes → ∀ k, good k → n % 2 = 1 → counted (.wakePattern u true k) 1) ∧
     (wakes → ∀ k, good k → n % 2 = 0 → n < 14 → counted (.wakePattern u true k) (n + 1)) ∧
     (wakes → ∀ k, good k → n % 2 = 1 → n < 14 → counted (.wakePattern u false k) (n + 1)) ∧
     (wakes → ∀ k, good k → n % 2 = 0 → counted (.wakePattern u false k) 0) ∧
     (∀ k, b.power.dev ≠ .sleep → wakes → good k → n = 14 → exec (.wakePattern u true k) s =
       .next (s.setBn u { b with power := { b.power with bursts := 0, wakeLatched := true } })) ∧
     (∀ k, b.power.dev = .sleep → good k → n = 14 → b.boot.health.checkerFails = 0 → b.power.doms = [] →
       ∃ t, exec (.wakePattern u true k) s = .next t ∧ OnlyUnit u s t ∧ (t.bn u).power.dev = .boot ∧ (t.bn u).boot.wakeSeq = true ∧
         (t.bn u).boot.step = 3 ∧ (t.bn u).boot.cause = 4 ∧ (t.bn u).power.ctrlIn = 1 ∧ (t.bn u).power.xoOk = true ∧
         (t.bn u).lease = b.lease ∧ (t.bn u).time = b.time ∧
         (∀ d, d ∈ [156, 165, 166, 167, 168, 169] ∨ (136 ≤ d ∧ d < 156) → ((t.bn u).dom d).power = .on) ∧
         ∀ d, d < 136 → ((t.bn u).dom d).power = .off))

/-- R200, R301, R313, R370, R466–R468: a clock-source failure in use: the wait, the clock-loss line, the lanes idle, a run ended, what was
retained resumed, no conversion and no excitation, a packet in execution dropped where its clock stopped; meanwhile the counter goes
on by 5; after the wait the galley is empty, time UNSET, the line released. An XO that stops out of use is noted. -/
def Obligations.ClockFailures : Prop :=
  ∀ (s : State) (u : BnId), s.hasBn u = true →
    let b := s.bn u
    let stays := b.power.dev = .boot ∨ b.power.dev = .minimal
    let inUse (src : ClkSource) : Prop := match src with
      | .pll => b.power.pllLock = true
      | .xo => b.power.xoOk = true ∧ (b.power.pllRef = 1 ∨ (b.power.dev = .boot ∧ 3 ≤ b.boot.step ∧ b.power.pllLock = false))
    (∀ src, b.power.dev.crosses = true → b.power.clkWait = false → inUse src →
      let stops := (src = .pll ∧ b.power.ctrlIn = 2) ∨ (src = .xo ∧ b.power.ctrlIn ≠ 0)
      ∃ t, exec (.clockSourceFailure u src) s = .next t ∧ OnlyUnit u s t ∧
        (t.bn u).power.clkWait = true ∧ (t.bn u).power.clkLossOut = true ∧ (t.bn u).power.pllLock = false ∧
        (t.bn u).power.xoOk = (b.power.xoOk && src != .xo) ∧ (t.bn u).power.entry = none ∧ (t.bn u).power.dozeX = none ∧
        (stays → (t.bn u).power.dev = b.power.dev ∧ (t.bn u).acq = b.acq) ∧
        (¬ stays → (t.bn u).power.dev = .ready ∧ (t.bn u).acq.phase = .idle ∧ (t.bn u).arr.jwords = []) ∧
        (∀ n, (t.bn u).dom n = if (b.dom n).power = .retained then { b.dom n with power := .on, isolated := false } else b.dom n) ∧
        (t.bn u).hkc.conv = none ∧ (t.bn u).hkc.exc = [] ∧ (t.bn u).job = (if stops then none else b.job) ∧
        (t.bn u).rd 0x1403 = wof (if src = .xo then 2 ^ 18 else 0) ∧ (t.bn u).rd 0x3C03 = 0 ∧
        (∀ o, o ≠ 0x1403 → o ≠ 0x3C03 → (t.bn u).rd o = b.rd o) ∧ (∀ l : Lane, l ∈ [0, 1, 2, 3, 5] → ((t.bn u).lane l).st = .idle) ∧
        (t.bn u).gal = b.gal ∧ (t.bn u).stage = b.stage ∧ (t.bn u).sess = b.sess ∧ (t.bn u).lease = b.lease ∧ (t.bn u).time = b.time ∧
        (t.bn u).loader = b.loader) ∧
    (∀ src, ¬ inUse src → exec (.clockSourceFailure u src) s = .next s) ∧
    (b.power.clkWait = true → b.power.pllLock = false → exec (.clockWaitAdvance u) s = .next (s.setBn u { b with
      time := { b.time with counter := (b.time.counter + 5) % 2 ^ 48, prev := (b.time.counter + 4) % 2 ^ 48, xc := b.xc + 5 } })) ∧
    (b.power.clkWait = false ∨ b.power.pllLock = true → exec (.clockWaitAdvance u) s = .next s) ∧
    (∀ ms : BitVec 16, b.power.clkWait = true → ∃ t, exec (.clockWaitEnd u ms) s = .next t ∧ OnlyUnit u s t ∧
      (t.bn u).power.clkWait = false ∧ (t.bn u).power.clkLossOut = false ∧ (t.bn u).power.xoOk = true ∧
      (b.power.dev ≠ .boot → (t.bn u).power.pllLock = true) ∧ (t.bn u).power.doms = b.power.doms ∧
      (t.bn u).time.t = 0 ∧ (t.bn u).time.step = 0 ∧ (t.bn u).time.unsetCause = 4 ∧ (t.bn u).time.counter = b.time.counter ∧
      (t.bn u).time.rate = b.time.rate ∧ (t.bn u).gal.queues = [] ∧ (t.bn u).gal.cells = [] ∧ (t.bn u).gal.leaked = 0 ∧
      (t.bn u).rd 0x2C1D = 0 ∧ fld ((t.bn u).rd 0x1403) 15 0 = ms.toNat ∧ (t.bn u).rd 0x1402 = satAdd (b.rd 0x1402) 1 20 ∧
      wbit ((t.bn u).rd 0x1000) 15 = true ∧ (∀ o, o < 0x3000 → o ∉ [0x1000, 0x1402, 0x1403, 0x2C13, 0x2C1D] → (t.bn u).rd o = b.rd o) ∧
      (t.bn u).loader = b.loader ∧ (t.bn u).arr = b.arr ∧ (t.bn u).stage = b.stage ∧ (t.bn u).sess = b.sess ∧
      (t.bn u).lease = b.lease ∧ (t.bn u).therm.win = [] ∧ (t.bn u).hkc.conv = none) ∧
    (∀ ms, b.power.clkWait = false → exec (.clockWaitEnd u ms) s = .next s) ∧
    (b.power.xoOk = true → ¬ inUse .xo → exec (.xoFail u) s = .next (s.setBn u { (b.wr 0x1400 (setFld (b.rd 0x1400) 11 11 1)).wr 0x1407
      (satAdd (b.rd 0x1407) 1 20) with power := { b.power with xoOk := false } })) ∧
    (b.power.xoOk = false ∨ inUse .xo → exec (.xoFail u) s = .next s)

/-- R439, R440, R489, R491: the scrub reads the codewords of the pantry in turn: a correctable one is corrected and counted, another one
has its words at their reset values, and a damaged lockout is a lockout in full; the sweep reads the retained words of the FV dies in
turn, one in sixteen crossings; a session that waited too long is OPEN; a lockout that is over leaves no failures. -/
def Obligations.PantryAndTimers : Prop :=
  ∀ (s : State) (u : BnId), s.hasBn u = true →
    let b := s.bn u
    let c := b.pantry.scrubNext
    let found := (rsRead (addrPantry c) (b.pantryData c) (mget b.pantry.flips c 0)).1
    let next := (c + 1) % 2048
    let N := s.dies.length * fvRetained.length
    (b.power.dev ≠ .off →
      (found = .clean → exec (.pantryScrub u) s = .next (s.setBn u { b with pantry := { b.pantry with scrubNext := next } })) ∧
      (found = .corrected → exec (.pantryScrub u) s = .next (s.setBn u { b.wr 0x100B (satAdd (b.rd 0x100B) 1 20) with
        pantry := { b.pantry with flips := mdel b.pantry.flips c, scrubNext := next } })) ∧
      (found ≠ .clean → found ≠ .corrected → ∃ t, exec (.pantryScrub u) s = .next t ∧ OnlyUnit u s t ∧
        (t.bn u).pantry.scrubNext = next ∧ wbit ((t.bn u).rd 0x100A) 19 = true ∧ (t.bn u).rd 0x100C = satAdd (b.rd 0x100C) 1 20 ∧
        (∀ o, o ≠ 0x100A → o ≠ 0x100C → (t.bn u).rd o = b.rd o) ∧ (∀ w, w / 4 ≠ c → (t.bn u).pw w = b.pw w) ∧
        (∀ w, w / 4 = c → w ≠ 0x000E → (t.bn u).pw w = pantryReset s.variant w) ∧
        (c = 3 → (t.bn u).pw 0x000E = wof (64 * 2 ^ 7 + 64) ∧ (t.bn u).sess.lockA = true ∧ (t.bn u).sess.lockB = true) ∧
        (c ≠ 3 → (t.bn u).sess = b.sess))) ∧
    (∀ (d : Die) off, (b.power.dev = .ready ∨ b.power.dev = .run ∨ b.power.dev = .doze) → b.power.clkWait = false →
      s.dies[b.pantry.sweepPos / fvRetained.length % s.dies.length]? = some d → fvRetained[b.pantry.sweepPos % fvRetained.length]? = some off →
      let mine := b.reqs.filter (fun r => r.die == d)
      let free := b.xc % 16 = 0 ∧ (∀ r ∈ b.reqs, r.owner = .sweep → r.die ≠ d ∧ r.made ≠ b.xc) ∧
        (mine.filter (fun r => r.sent.isSome)).length < 8 ∧ b.domOn (159 + d.val) = true
      (free → exec (.pantrySweep u) s = .next (s.setBn u { b with
        reqs := b.reqs ++ [⟨d, 0, off, 0, .sweep, b.xc, none, 0, 0⟩]
        pantry := { b.pantry with sweepPos := (b.pantry.sweepPos + 1) % N } })) ∧
      (¬ free → exec (.pantrySweep u) s = .next s)) ∧
    (b.sess.level ≠ .open → exec (.sessionTimeout u) s = .next (s.setBn u { b.wr 0x0400 (setFld (b.rd 0x0400) 17 17 1) with
      sess := { b.sess with level := .open, slot := 0 } })) ∧
    (b.sess.level = .open → exec (.sessionTimeout u) s = .next s) ∧
    (∀ lvl, b.sess.locked lvl = false → exec (.lockoutEnd u lvl) s = .next s) ∧
    (∀ lvl : KeyLevel, b.sess.locked lvl = true → b.power.dev ≠ .off →
      let lo := 2 * (levelIx lvl).val
      let sec := 7 * (levelIx lvl).val
      ∃ t, exec (.lockoutEnd u lvl) s = .next t ∧ OnlyUnit u s t ∧ (t.bn u).sess.locked lvl = false ∧
        (∀ k, k ≠ lvl → (t.bn u).sess.locked k = b.sess.locked k) ∧ (t.bn u).sess.level = b.sess.level ∧
        (t.bn u).pw 0x000D = setFld (b.pw 0x000D) (lo + 1) lo 0 ∧ (t.bn u).pw 0x000E = setFld (b.pw 0x000E) (sec + 6) sec 0 ∧
        (∀ w, w ≠ 0x000D → w ≠ 0x000E → (t.bn u).pw w = b.pw w) ∧ ∀ o, (t.bn u).rd o = b.rd o)

/-! ## Housekeeping, temperature limits, the test access port -/

namespace Sys2Proof.Claims

/-- A converter that runs (R495, R467, R482). -/
def Converts (s : State) (u : BnId) : Prop :=
  s.hasBn u = true ∧ (s.bn u).domOn 166 = true ∧ (s.bn u).domOn 167 = true ∧ (s.bn u).power.dev.crosses = true ∧
    (s.bn u).power.clkWait = false

/-- The command leaves the unit as `b`, free values drawn or not. -/
def Keeps (s : State) (u : BnId) (c : Instr) (b : Bn) : Prop := ∃ t, exec c s = .next t ∧ OnlyUnit u s t ∧ t.bn u = b

/-- The enabled entry at which a round goes on (R509, R511). -/
def NextEntry (b : Bn) (pos e : Nat) : Prop :=
  pos ≤ e ∧ e < 64 ∧ e < fld (b.rd 0x3003) 6 0 ∧ wbit (b.rd (0x3100 + 8 * e)) 19 = true ∧
    ∀ k, pos ≤ k → k < e → wbit (b.rd (0x3100 + 8 * k)) 19 = false

/-- The words of an entry (R510, R521). -/
def entryWords (b : Bn) (e : Nat) : List Word := (List.range 6).map (fun i => b.rd (0x3100 + 8 * e + i))

/-- A conversion of an entry that starts at an instant, with no sample yet; the settings are those of `b` (R498, R510, R512). -/
def Starts (b : Bn) (c : Conv) (e : Nat) (urgent : Bool) (tsw : Nat) : Prop :=
  c.entry = e ∧ c.urgent = urgent ∧ c.sq = entryWords b e ∧ c.k = (if urgent then 0 else fld (b.rd (0x2440 + e)) 4 0) ∧ c.tsw = tsw ∧
    c.settle = tsw + (if sqExc c.sq c.chopRot = b.hkc.exc then 32 else 2048) * 500000 ∧ c.lastT = none ∧ c.outs = 0 ∧ c.m = 0 ∧ c.sum = 0

/-- An entry that may be converted: it has no excitation, or the unit holds a lease (R517). -/
def Allowed (b : Bn) (e : Nat) : Prop := sqMode (entryWords b e) = 0 ∨ b.holds = true

end Sys2Proof.Claims

/-- R496, R500, R507, R508, R515, R525–R527: an output sample is taken at the next instant of the grid of its entry; it is corrected, flagged,
used when settled and not blanked, and shown; a sample of a GUARD entry outside its window is counted; one of a DIE entry at the
shut-down level is counted, and the next one shuts the unit down. -/
def Obligations.HousekeepingSamples : Prop :=
  (∀ rate t : Nat, 0 < rate → t ≤ gridNext rate t ∧
    (∃ sec j, j < rate ∧ gridNext rate t = sec * 1024000000000 + j * 1024000000000 / rate) ∧
    ∀ sec j, j < rate → t ≤ sec * 1024000000000 + j * 1024000000000 / rate → gridNext rate t ≤ sec * 1024000000000 + j * 1024000000000 / rate) ∧
  (∀ (s : State) (u : BnId) (raw : Word) (at_ : Nat), Converts s u →
    let b := s.bn u
    let row := Instr.hkOutputSample u raw at_
    (b.hkc.conv = none → Keeps s u row b) ∧
    (∀ c, b.hkc.conv = some c →
      let gd := groupTk (fld (c.w 1) 19 16)
      let due := at_ = gridNext (fld (c.w 1) 10 0) (match c.lastT with
        | some t => t + 1
        | none => c.tsw)
      let full := 2 ^ c.k ≤ c.m ∨ 2 ^ (c.k + 1) ≤ c.outs
      let formed := due ∧ ¬ full ∧ b.excLost c = false ∧ at_ + gd < b.time.t / 2 ^ 20 + 25600
      let over_ := b.overIn (at_ - gd) (at_ + gd)
      let off : Int := (c.w 4).toInt
      let exact : Int := ((raw.toInt - off) * (c.w 5).toNat + 2 ^ 17).fdiv (2 ^ 18)
      let y : Int := match over_ with
        | some neg => if c.absent s.variant then 0 else if neg then -0x80000 else 0x7FFFF
        | none => if c.absent s.variant then 0 else max (-0x80000) (min 0x7FFFF exact)
      let sat : Bool := !c.absent s.variant && (over_.isSome || decide (exact < -0x80000 ∨ 0x7FFFF < exact))
      let unset := decide (at_ < c.settle + gd)
      let blanked := b.blankIn (at_ - gd) (at_ + gd)
      let used := !unset && !blanked
      let cls := fld (c.w 0) 18 17
      (¬ formed → Keeps s u row b) ∧
      (formed → (cls = 1 ∨ cls = 3 → used = false) → ∃ t c1, exec row s = .next t ∧ OnlyUnit u s t ∧
        (t.bn u).hkc = { b.hkc with conv := some c1 } ∧
        c1.lastT = some at_ ∧ c1.outs = (if unset then c.outs else c.outs + 1) ∧ c1.m = c.m + b2n used ∧
        c1.sum = (if used then c.sum + y else c.sum) ∧ c1.entry = c.entry ∧ c1.sq = c.sq ∧ c1.k = c.k ∧ c1.settle = c.settle ∧
        c1.ovr = (c.ovr || (sat && used)) ∧ c1.blanked = (c.blanked || (blanked && !unset)) ∧ c1.guardOut = c.guardOut ∧
        (t.bn u).rd 0x3010 = wof (2 ^ 19 + c.entry * 2 ^ 13 + b2n c.urgent * 2 ^ 12 +
          (b2n unset * 8 + b2n blanked * 4 + b2n sat * 2 + b2n (c.absent s.variant)) * 2 ^ 8) ∧
        (t.bn u).rd 0x3011 = ofInt y 20 ∧ (t.bn u).rd 0x300B = (if sat then satAdd (b.rd 0x300B) 1 20 else b.rd 0x300B) ∧
        (t.bn u).therm = b.therm ∧ (t.bn u).power = b.power ∧ (wbit (c.w 0) 16 = false →
          (∀ o, o ∉ [0x300B, 0x3010, 0x3011] → (t.bn u).rd o = b.rd o) ∧ (t.bn u).gal = b.gal)) ∧
      (formed → used = true → cls = 1 →
        let outside := y.fdiv 1024 < sx (fld (c.w 3) 19 16 * 64 + fld (c.w 3) 15 10) 10 ∨ sx (fld (c.w 3) 9 0) 10 < y.fdiv 1024
        ∃ t c1, exec row s = .next t ∧ OnlyUnit u s t ∧ (t.bn u).hkc.conv = some c1 ∧ c1.m = c.m + 1 ∧ c1.sum = c.sum + y ∧
          (c1.guardOut = true ↔ c.guardOut = true ∨ outside) ∧ (t.bn u).power = b.power ∧
          (outside → (t.bn u).rd 0x300D = satAdd (b.rd 0x300D) 1 20 ∧ wbit ((t.bn u).rd 0x3000) 15 = true) ∧
          (¬ outside → (t.bn u).rd 0x300D = b.rd 0x300D ∧ (t.bn u).hkc.urg = b.hkc.urg) ∧
          (c.asked = true ∨ wbit (c.w 2) 8 = false → (t.bn u).hkc.urg = b.hkc.urg) ∧
          (outside → c.asked = false → wbit (c.w 2) 8 = true → fld (c.w 2) 5 0 ≠ c.entry → b.hkc.urg.length < 4 →
            ∃ p, (p, fld (c.w 2) 5 0) ∈ (t.bn u).hkc.urg)) ∧
      (formed → used = true → cls = 3 → c.absent s.variant = false →
        let hot := sat = true ∨ 117760 ≤ y
        let run := mget b.hkc.dieRun c.entry 0
        (¬ hot → ∃ t, exec row s = .next t ∧ OnlyUnit u s t ∧ mget (t.bn u).hkc.dieRun c.entry 0 = 0 ∧ (t.bn u).power = b.power ∧
          (t.bn u).rd 0x340E = b.rd 0x340E) ∧
        (hot → run = 0 → ∃ t, exec row s = .next t ∧ OnlyUnit u s t ∧ mget (t.bn u).hkc.dieRun c.entry 0 = 1 ∧
          (t.bn u).rd 0x340E = satAdd (b.rd 0x340E) 1 20 ∧ wbit ((t.bn u).rd 0x3401) 2 = true ∧ (t.bn u).power = b.power) ∧
        (hot → run ≠ 0 → ∃ t, exec row s = .next t ∧ OnlyUnit u s t ∧ (t.bn u).power.dev = .shutdown ∧
          (t.bn u).power.clkLossOut = true ∧ (t.bn u).power.doms = [] ∧ (t.bn u).lease.role = .none ∧ (t.bn u).sess.level = .open ∧
          ∀ l, (t.bn u).lane l = .rest))))

/-- R331, R497–R499, R506, R509–R518: a dwell with its samples ends: the result is their average, with its flags, and the converter goes on with
the urgent requests in order of priority, then with the next enabled entry, or ends the round; an open circuit ends the dwell; a
queued request abandons the running dwell in an SLN-8, three times at most in a round. -/
def Obligations.HousekeepingDwells : Prop :=
  ∀ (s : State) (u : BnId), Converts s u →
    let b := s.bn u
    let v := s.variant
    (b.hkc.conv = none → Keeps s u (.hkDwellEnd u) b ∧ Keeps s u (.openCircuit u) b) ∧
    (∀ c, b.hkc.conv = some c → fld (c.w 0) 18 17 ≠ 2 → wbit (c.w 0) 12 = false → c.entry < 64 →
      let full := 2 ^ c.k ≤ c.m ∨ 2 ^ (c.k + 1) ≤ c.outs
      let e := c.entry
      let part := decide (c.m < 2 ^ c.k)
      let tsw := c.lastT.getD 0 + groupTk (fld (c.w 1) 19 16)
      let word (part blanked ovr open_ : Bool) : Nat := b2n part * 2 ^ 19 + b2n blanked * 2 ^ 17 + b2n ovr * 2 ^ 16 + b2n open_ * 2 ^ 15 +
        b2n c.guardOut * 2 ^ 13 + b2n (b.time.step != 2) * 2 ^ 11 + c.chopRot * 2 ^ 8 + c.round
      (¬ full → b.excLost c = false → Keeps s u (.hkDwellEnd u) b) ∧
      (full → b.excLost c = false → c.absent v = false → b.hkc.urg = [] → b.hkc.pendStart = false →
        let open_ : Bool := decide (sqMode c.sq = 2 ∧ 0 < c.m ∧ (0x7C000 * (c.m : Int) ≤ c.rawSum ∨ c.rawSum ≤ -(0x7C000 * (c.m : Int))))
        let a : Int := if open_ then 0x7FFFF * 2 ^ 20 else if c.m = 0 then 0 else (c.sum * 2 ^ 20).fdiv c.m
        let result (t : State) : Prop := OnlyUnit u s t ∧
          (t.bn u).rd (0x3300 + 4 * e) = wof (ofInt a 40 / 2 ^ 20) ∧ (t.bn u).rd (0x3301 + 4 * e) = wof (ofInt a 40) ∧
          (t.bn u).rd (0x3302 + 4 * e) = wof (word part c.blanked c.ovr open_) ∧
          (t.bn u).rd 0x300A = (if open_ then satAdd (b.rd 0x300A) 1 20 else b.rd 0x300A) ∧ (t.bn u).power = b.power ∧ (t.bn u).therm = b.therm
        (b.hkc.running = false → ∃ t, exec (.hkDwellEnd u) s = .next t ∧ result t ∧ (t.bn u).hkc.conv = none) ∧
        (∀ k, b.hkc.running = true → b.hkc.stopping = false → NextEntry b b.hkc.pos k → Allowed b k →
          ∃ t n, exec (.hkDwellEnd u) s = .next t ∧ result t ∧ (t.bn u).hkc.conv = some n ∧ Starts b n k false tsw ∧
            (t.bn u).hkc.pos = k + 1 ∧ (t.bn u).hkc.running = true ∧ (t.bn u).rd 0x3005 = b.rd 0x3005) ∧
        (b.hkc.running = true → b.hkc.stopping = true ∨ (∀ k, ¬ NextEntry b b.hkc.pos k) →
          ∃ t, exec (.hkDwellEnd u) s = .next t ∧ result t ∧ (t.bn u).hkc.conv = none ∧ (t.bn u).hkc.running = false ∧
            (t.bn u).rd 0x3005 = satAdd (b.rd 0x3005) 1 20 ∧
            (t.bn u).rd 0x300F = wof (min ((tsw - b.hkc.roundAt) / 1024000000) 0xFFFF))) ∧
      (b.excLost c = true → b.hkc.urg = [] → b.hkc.running = false →
        ∃ t, exec (.hkDwellEnd u) s = .next t ∧ OnlyUnit u s t ∧ (t.bn u).hkc.conv = none ∧
          (t.bn u).rd (0x3302 + 4 * e) = wof (2 ^ 14 + word true c.blanked false false) ∧ (t.bn u).power = b.power) ∧
      (sqMode c.sq = 1 → b.holds = true → b.hkc.urg = [] → b.hkc.running = false →
        ∃ t, exec (.openCircuit u) s = .next t ∧ OnlyUnit u s t ∧ (t.bn u).hkc.conv = none ∧
          (t.bn u).rd (0x3300 + 4 * e) = 0x7FFFF ∧ (t.bn u).rd (0x3301 + 4 * e) = 0 ∧
          (t.bn u).rd (0x3302 + 4 * e) = wof (word part c.blanked c.ovr true) ∧
          (t.bn u).rd 0x300A = satAdd (b.rd 0x300A) 1 20 ∧ wbit ((t.bn u).rd 0x3000) 13 = true)) ∧
    (∀ c, b.hkc.conv = some c → sqMode c.sq ≠ 1 ∨ b.holds = false → Keeps s u (.openCircuit u) b) ∧
    (b.hkc.urg = [] → Keeps s u (.urgentConversion u) b) ∧
    (∀ r : Nat × Nat, r ∈ b.hkc.urg → (∀ q ∈ b.hkc.urg, q ≠ r → r.1 < q.1) → r.1 < 3 → Allowed b r.2 →
      let serves (pos : Nat) : Prop := ∃ t n, exec (.urgentConversion u) s = .next t ∧ OnlyUnit u s t ∧ (t.bn u).hkc.conv = some n ∧
        Starts b n r.2 true (b.time.t / 2 ^ 20) ∧ (t.bn u).rd 0x3007 = satAdd (b.rd 0x3007) 1 20 ∧ (t.bn u).hkc.pos = pos ∧
        (∀ q, q ≠ r → q ∈ b.hkc.urg → q ∈ (t.bn u).hkc.urg) ∧ (t.bn u).hkc.urg.length + 1 = b.hkc.urg.length ∧
        (t.bn u).hkc.running = b.hkc.running ∧ (t.bn u).power = b.power
      (b.hkc.conv = none → serves b.hkc.pos) ∧
      (∀ c, b.hkc.conv = some c → c.urgent = true ∨ v ≠ .sln8 → Keeps s u (.urgentConversion u) b) ∧
      (∀ c, b.hkc.conv = some c → c.urgent = false → v = .sln8 → mget b.hkc.abandons c.entry 0 < 3 → serves c.entry ∧
        ∀ t, exec (.urgentConversion u) s = .next t → mget (t.bn u).hkc.abandons c.entry 0 = mget b.hkc.abandons c.entry 0 + 1 ∧
          (t.bn u).rd 0x3009 = satAdd (b.rd 0x3009) 1 20) ∧
      (∀ c, b.hkc.conv = some c → c.urgent = false → v = .sln8 → 3 ≤ mget b.hkc.abandons c.entry 0 →
        Keeps s u (.urgentConversion u) (b.wr 0x3000 (setFld (b.rd 0x3000) 12 12 1))))

/-- R507, R508, R511, R521: rounds start on command and periodically; a start while a round runs is pending, once, and counted; RUN = 0 ends a
round after the running entry; BLANK opens an interval that is counted, and closes it; an over-range is kept with its sign. -/
def Obligations.HousekeepingRounds : Prop :=
  (∀ (s : State) (u : BnId), Works s u → (s.bn u).asleep 0x3000 = false → (s.bn u).failedBlock 0x3000 = false →
    let b := s.bn u
    let w := b.rd 0x3001
    let steady := wbit w 17 = false ∧ wbit w 19 = false ∧ (b.hkc.pin || wbit w 18) = b.hkc.blanks.any (fun p => p.2.isNone)
    steady →
    (wbit w 16 = false → ∃ t, exec (.hkStart u) s = .next t ∧ OnlyUnit u s t ∧ (t.bn u).hkc = { b.hkc with stopping := b.hkc.running } ∧
      (∀ o, o ≠ 0x3001 → (t.bn u).rd o = b.rd o) ∧ (t.bn u).last = .ok) ∧
    (wbit w 16 = true → b.hkc.running = true → ∃ t, exec (.hkStart u) s = .next t ∧ OnlyUnit u s t ∧
      (t.bn u).hkc = { b.hkc with stopping := false, pendStart := true } ∧ wbit ((t.bn u).rd 0x3000) 16 = true ∧
      (t.bn u).rd 0x3006 = satAdd (b.rd 0x3006) 1 20 ∧ (∀ o, o ∉ [0x3000, 0x3001, 0x3006] → (t.bn u).rd o = b.rd o)) ∧
    (∀ k, wbit w 16 = true → b.hkc.running = false → b.hkc.conv = none → b.hkc.urg = [] → NextEntry b 0 k → Allowed b k →
      ∃ t n, exec (.hkStart u) s = .next t ∧ OnlyUnit u s t ∧ (t.bn u).hkc.running = true ∧ (t.bn u).hkc.roundAt = b.time.t / 2 ^ 20 ∧
        (t.bn u).hkc.results = [] ∧ (t.bn u).hkc.abandons = [] ∧ (t.bn u).hkc.pos = k + 1 ∧ (t.bn u).hkc.conv = some n ∧
        Starts b n k false (b.time.t / 2 ^ 20) ∧ ∀ o, o ≠ 0x3001 → (t.bn u).rd o = b.rd o) ∧
    (∃ t, exec (.hkRunStop u) s = .next t ∧ OnlyUnit u s t ∧ (t.bn u).hkc = { b.hkc with stopping := b.hkc.running } ∧
      wbit ((t.bn u).rd 0x3001) 16 = false ∧ ∀ o, o ≠ 0x3001 → (t.bn u).rd o = b.rd o)) ∧
  (∀ (s : State) (u : BnId), Converts s u →
    let b := s.bn u
    let now := b.time.t / 2 ^ 20
    let per := (b.rd 0x3002).toNat % 2 ^ 16 * 1024000000
    let x := (now + per - 1) / per * per
    let due := per ≠ 0 ∧ x < now + 25600 ∧ b.hkc.lastPeriodic ≠ some x
    (¬ due → b.hkc.pendStart = false ∨ b.hkc.running = true → Keeps s u (.hkRoundStart u) b) ∧
    (due → wbit (b.rd 0x3001) 16 = false → Keeps s u (.hkRoundStart u) { b with hkc := { b.hkc with lastPeriodic := some x } }) ∧
    (due → wbit (b.rd 0x3001) 16 = true → b.hkc.running = true → ∃ t, exec (.hkRoundStart u) s = .next t ∧ OnlyUnit u s t ∧
      (t.bn u).hkc = { b.hkc with lastPeriodic := some x, pendStart := true } ∧ (t.bn u).rd 0x3006 = satAdd (b.rd 0x3006) 1 20) ∧
    (∀ k, due → wbit (b.rd 0x3001) 16 = true → b.hkc.running = false → b.hkc.conv = none → b.hkc.urg = [] → NextEntry b 0 k → Allowed b k →
      ∃ t n, exec (.hkRoundStart u) s = .next t ∧ OnlyUnit u s t ∧ (t.bn u).hkc.running = true ∧ (t.bn u).hkc.roundAt = x ∧
        (t.bn u).hkc.conv = some n ∧ Starts b n k false x ∧ ∀ o, (t.bn u).rd o = b.rd o) ∧
    (∀ neg, Keeps s u (.overRange u neg) { b with hkc := { b.hkc with overs := b.hkc.overs ++ [(now, neg)] } }) ∧
    (∀ high, let want := high || wbit (b.rd 0x3001) 18
      let open_ := b.hkc.blanks.any (fun p => p.2.isNone)
      ∃ t, exec (.blank u high) s = .next t ∧ t.blankPin = high ∧ t.bn u.other = s.bn u.other ∧ t.fvs = s.fvs ∧ (t.bn u).hkc.pin = high ∧
        (want = true → open_ = false → (t.bn u).hkc.blanks = b.hkc.blanks ++ [(now, none)] ∧
          (t.bn u).rd 0x300E = satAdd (b.rd 0x300E) 1 20 ∧ ∀ o, o ≠ 0x300E → (t.bn u).rd o = b.rd o) ∧
        (want = false → open_ = true → (∀ p, p ∈ (t.bn u).hkc.blanks ↔ ∃ q ∈ b.hkc.blanks, p = (q.1, some (q.2.getD now))) ∧
          (t.bn u).regs = b.regs) ∧
        (want = open_ → (t.bn u).hkc = { b.hkc with pin := high } ∧ (t.bn u).regs = b.regs)))

/-- R532, R533, R557: the holder enforces when the grace is over and returns to NORMAL when no entry rises; both from Z, four crossings later,
with a THERM message to the partner, which is repeated every 1 024 crossings. The test access port is a 1149.1 controller of the dies
in step 1 of a boot with BOOTSEL 11b: TDI to BN-A, BN-A to BN-B; a port not enabled is held in reset. -/
def Obligations.ThrottleAndTestPort : Prop :=
  (∀ (s : State) (u : BnId), s.hasBn u = true → (s.bn u).holds = true →
    let b := s.bn u
    let th := b.therm
    let entry := match th.pend.getLast? with
      | some p => p.2.2.2
      | none => th.entry
    let rises := ∃ e, e < 64 ∧ fld (b.rd (0x3100 + 8 * e)) 18 17 = 2 ∧ b.rateValid e = true ∧ (b.rd 0x3404).toInt ≤ mget th.rate e 0
    let code : Throttle → Nat := fun
      | .normal => 0
      | .asked => 1
      | .enforced => 2
    let turns (c : Instr) (st : Throttle) (k : Nat) : Prop := ∃ t, exec c s = .next t ∧ OnlyUnit u s t ∧
      (t.bn u).therm.pend = th.pend ++ [(b.now + 4, st, k, entry)] ∧ (t.bn u).therm.decided = st ∧ (t.bn u).therm.st = th.st ∧
      (t.bn u).xl.ctl = (if s.variant = .sln2 then b.xl.ctl
        else (ctlMsg b 8 (b.now + 4) (code st * 2 ^ 126 + k * 2 ^ 122 + entry * 2 ^ 116)).ctl) ∧
      (t.bn u).rd 0x3410 = (if st = .enforced then satAdd (b.rd 0x3410) 1 20 else b.rd 0x3410) ∧ (t.bn u).lease = b.lease ∧
      (t.bn u).power = b.power ∧ (t.bn u).hkc = b.hkc
    (th.decided = .asked → turns (.grace u) .enforced (fld (b.rd 0x3409) 3 0)) ∧
    (th.decided ≠ .asked → exec (.grace u) s = .next s) ∧
    (th.decided ≠ .normal → ¬ rises → turns (.holdS u) .normal th.skipK) ∧
    (th.decided = .normal ∨ rises → exec (.holdS u) s = .next s) ∧
    (s.variant ≠ .sln2 → th.pend = [] → th.sentAt + 1024 ≤ b.xc → exec (.therm u) s = .next (s.setBn u { b with
      therm := { th with sentAt := b.xc }
      xl := ctlMsg b 8 (b.now + 4) (fld th.word 19 18 * 2 ^ 126 + th.skipK * 2 ^ 122 + th.entry * 2 ^ 116) })) ∧
    (s.variant = .sln2 ∨ th.pend ≠ [] ∨ b.xc < th.sentAt + 1024 → exec (.therm u) s = .next s)) ∧
  (∀ (s : State) (u : BnId), (s.bn u).holds = false →
    exec (.grace u) s = .next s ∧ exec (.holdS u) s = .next s ∧ exec (.therm u) s = .next s) ∧
  (∀ (s : State) (ev : TapEvent),
    let on (u : BnId) : Prop := (s.bn u).power.dev = .boot ∧ (s.bn u).boot.step = 1 ∧ (s.bn u).boot.straps.bootsel = 3
    let high := match ev with
      | .trst x => x
      | _ => s.trstPin
    ∃ t, exec (.testAccessPort ev) s = .next t ∧ t.fvs = s.fvs ∧ t.trstPin = high ∧ t.variant = s.variant ∧
      (∀ u, { t.bn u with tap := (s.bn u).tap } = s.bn u) ∧ (s.variant = .sln2 → t.bnB = s.bnB) ∧
      (∀ u, (u = .a ∨ s.variant ≠ .sln2) → ¬ (on u ∧ high = true) → (t.bn u).tap = .rest) ∧
      (∀ u, (u = .a ∨ s.variant ≠ .sln2) → on u → high = true →
        let p := (s.bn u).tap
        let q := (t.bn u).tap
        (∀ tms tdi, ev = .rise tms tdi → q.st = p.st.next tms ∧ q.ir = p.ir ∧ q.bsr = p.bsr ∧ q.tdo = p.tdo ∧
          (p.st = .capDr → p.ir = .bypass → q.dr = [false]) ∧ (p.st = .capDr → p.ir = .idcode → ofLowBits q.dr = 0x25A404BB ∧ q.dr.length = 32) ∧
          (p.st = .shiftDr → u = .a → q.dr = p.dr.drop 1 ++ [tdi]) ∧
          (∀ x, p.st = .shiftDr → u = .b → s.bnA.tap.tdo = some x → q.dr = p.dr.drop 1 ++ [x]) ∧
          (p.st = .shiftIr → u = .a → q.irSh = p.irSh.drop 1 ++ [tdi]) ∧ (p.st ≠ .capDr → p.st ≠ .shiftDr → q.dr = p.dr)) ∧
        (ev = .fall → q.st = p.st ∧ q.dr = p.dr ∧ q.irSh = p.irSh ∧
          (p.st = .shiftDr → q.tdo = p.dr.head?) ∧ (p.st = .shiftIr → q.tdo = p.irSh.head?) ∧
          (p.st ≠ .shiftDr → p.st ≠ .shiftIr → q.tdo = none) ∧
          (p.st = .updIr → ofLowBits p.irSh = 0 → q.ir = .extest) ∧ (p.st = .reset → q.ir = .idcode) ∧
          (p.st = .updDr → p.ir = .sample ∨ p.ir = .extest → q.bsr = p.dr) ∧ (p.st ≠ .updIr → p.st ≠ .reset → q.ir = p.ir)) ∧
        (∀ x, ev = .trst x → q = p)))

/-! ## Invariants of every step -/

/-- R1, R45, R47: no command reaches a part that the variant lacks: the second unit of an SLN-2 and the FV dies beyond the variant's number
stay without state, whatever runs; and no command changes the variant or the grade. -/
def Obligations.AbsentPartsStayDark : Prop :=
  ∀ s t : State, AbsentDark s → step s = .next t → AbsentDark t ∧ t.variant = s.variant ∧ t.gradeH = s.gradeH

/-- R46, R393: whatever runs, the role of each unit fits its device state: roles ACTIVE, SHADOW, COLD, QUIET and FAILED only in READY, RUN
and DOZE, MINIMAL only in MINIMAL, none elsewhere. -/
def Obligations.RolesFitDeviceStates : Prop :=
  ∀ s t : State, (∀ u, RoleFits (s.bn u)) → step s = .next t → ∀ u, RoleFits (t.bn u)
end

