-- ==== Sys2Proof/Laws/Bits.lean ====
section
/-! SUPPORT. The bits of a word after a field of it is replaced (`setFld`), and the fields of sums that build words. -/

namespace Sys2Proof.Machine

/-- A number as the bits above a field, the field, and the bits below. -/
theorem nat_split (n hi lo : Nat) (h : lo ≤ hi + 1) :
    n = 2 ^ lo * (2 ^ (hi + 1 - lo) * (n / 2 ^ (hi + 1)) + bitsOf n hi lo) + n % 2 ^ lo := by
  have e : 2 ^ (hi + 1) = 2 ^ lo * 2 ^ (hi + 1 - lo) := by rw [← Nat.pow_add]; congr 1; omega
  rw [bitsOf, e, ← Nat.div_div_eq_div_mul, Nat.div_add_mod, Nat.div_add_mod]

theorem setBits_eq (n hi lo v : Nat) (h : lo ≤ hi + 1) :
    setBits n hi lo v = 2 ^ lo * (2 ^ (hi + 1 - lo) * (n / 2 ^ (hi + 1)) + v % 2 ^ (hi + 1 - lo)) + n % 2 ^ lo := by
  have hs := nat_split n hi lo h
  rw [setBits]
  rw [Nat.mul_add] at hs ⊢
  rw [Nat.mul_comm (bitsOf n hi lo), Nat.mul_comm (v % 2 ^ (hi + 1 - lo)) (2 ^ lo)]
  omega

theorem testBit_setBits (n hi lo v j : Nat) (h : lo ≤ hi + 1) :
    (setBits n hi lo v).testBit j =
      if j < lo then n.testBit j else if j ≤ hi then v.testBit (j - lo) else n.testBit j := by
  rw [setBits_eq n hi lo v h, Nat.testBit_two_pow_mul_add _ (Nat.mod_lt _ (Nat.two_pow_pos _))]
  split
  · rw [Nat.testBit_mod_two_pow]; simp [*]
  · rw [Nat.testBit_two_pow_mul_add _ (Nat.mod_lt _ (Nat.two_pow_pos _))]
    split
    · rw [Nat.testBit_mod_two_pow, if_pos (by omega)]; simp only [Bool.and_eq_right_iff_imp, decide_eq_true_eq]; omega
    · rw [if_neg (by omega), Nat.testBit_div_two_pow]; congr 1; omega

/-- A bit of a word whose field was replaced. -/
theorem wbit_setFld (w : Word) (hi lo v j : Nat) (h : lo ≤ hi + 1) (hj : j < 20) :
    wbit (setFld w hi lo v) j = if j < lo then wbit w j else if j ≤ hi then v.testBit (j - lo) else wbit w j := by
  simp only [wbit, setFld, wof, BitVec.toNat_ofNat, Nat.testBit_mod_two_pow, hj, decide_true, Bool.true_and,
    testBit_setBits _ _ _ _ _ h]

/-- A bit that was set or cleared. -/
theorem wbit_setFld_self (w : Word) (i : Nat) (x : Bool) (h : i < 20) : wbit (setFld w i i (b2n x)) i = x := by
  rw [wbit_setFld w i i _ i (by omega) h]
  cases x <;> simp [b2n]

theorem wbit_setFld_ne (w : Word) {i j : Nat} (v : Nat) (h : j < 20) (hj : j ≠ i) : wbit (setFld w i i v) j = wbit w j := by
  rw [wbit_setFld w i i v j (by omega) h]
  split
  · rfl
  · rw [if_neg (by omega)]

end Sys2Proof.Machine
end

