-- ==== Sys2Proof/Laws/Maps.lean ====
section
/-! SUPPORT. The laws of the sparse maps: what a read finds after a write, and that every write keeps the canonical form. -/

namespace Sys2Proof.Machine

variable {α : Type}

@[simp] theorem mget_nil (k : Nat) (d : α) : mget [] k d = d := (rfl)

theorem mget_cons (p : Nat × α) (t : SMap α) (k : Nat) (d : α) :
    mget (p :: t) k d = if p.1 = k then p.2 else mget t k d := (rfl)

theorem mget_mdel_self (m : SMap α) (k : Nat) (d : α) : mget (mdel m k) k d = d := by
  induction m with
  | nil => rfl
  | cons p t ih =>
    unfold mdel at ih ⊢
    by_cases h : p.1 = k
    · simp [h, ih]
    · simp [h, mget_cons, ih]

theorem mget_mdel_ne (m : SMap α) {k j : Nat} (d : α) (h : j ≠ k) : mget (mdel m k) j d = mget m j d := by
  induction m with
  | nil => rfl
  | cons p t ih =>
    unfold mdel at ih ⊢
    by_cases hp : p.1 = k
    · have : ¬ p.1 = j := fun e => h (e ▸ hp)
      simp [hp, ih, mget_cons]
      intro e; exact absurd e.symm h
    · simp [hp, mget_cons, ih]

theorem mget_mins_self (m : SMap α) (k : Nat) (v d : α) (h : ∀ p ∈ m, p.1 ≠ k) : mget (mins k v m) k d = v := by
  induction m with
  | nil => simp [mins, mget_cons]
  | cons p t ih =>
    obtain ⟨j, w⟩ := p
    have hj : j ≠ k := h (j, w) (by simp)
    by_cases hlt : k < j
    · simp [mins, hlt, mget_cons]
    · simp [mins, hlt, mget_cons, hj, ih (fun p hp => h p (by simp [hp]))]

theorem mget_mins_ne (m : SMap α) {k j : Nat} (v d : α) (h : j ≠ k) : mget (mins k v m) j d = mget m j d := by
  induction m with
  | nil => simp [mins, mget_cons, Ne.symm h]
  | cons p t ih =>
    obtain ⟨i, w⟩ := p
    by_cases hlt : k < i
    · simp [mins, hlt, mget_cons, Ne.symm h]
    · simp [mins, hlt, mget_cons, ih]

theorem mdel_keys (m : SMap α) (k : Nat) : ∀ p ∈ mdel m k, p.1 ≠ k := by
  intro p hp
  simpa [mdel] using (List.mem_filter.mp hp).2

/-- A read of the key written. -/
@[simp] theorem mget_mput_self [DecidableEq α] (m : SMap α) (k : Nat) (v d : α) : mget (mput m k v d) k d = v := by
  unfold mput
  split
  · next h => rw [mget_mdel_self, h]
  · exact mget_mins_self _ _ _ _ (mdel_keys m k)

/-- A read of another key. -/
theorem mget_mput_ne [DecidableEq α] (m : SMap α) {k j : Nat} (v d e : α) (h : j ≠ k) : mget (mput m k v d) j e = mget m j e := by
  unfold mput
  split
  · exact mget_mdel_ne m e h
  · rw [mget_mins_ne _ _ _ h, mget_mdel_ne m e h]

/-! The canonical form. -/

theorem mwfFrom_mono [DecidableEq α] (d : Nat → α) {m : SMap α} {lo lo' : Nat} (h : lo' ≤ lo) (w : mwfFrom d lo m = true) :
    mwfFrom d lo' m = true := by
  cases m with
  | nil => rfl
  | cons p t =>
    obtain ⟨j, v⟩ := p
    simp [mwfFrom] at w ⊢
    exact ⟨⟨by omega, w.1.2⟩, w.2⟩

theorem mwfFrom_mdel [DecidableEq α] (d : Nat → α) (k : Nat) {m : SMap α} {lo : Nat} (w : mwfFrom d lo m = true) :
    mwfFrom d lo (mdel m k) = true := by
  induction m generalizing lo with
  | nil => rfl
  | cons p t ih =>
    obtain ⟨j, v⟩ := p
    simp [mwfFrom] at w
    unfold mdel at ih ⊢
    by_cases h : j = k
    · simp [h]
      exact mwfFrom_mono d (by omega) (ih w.2)
    · simp [h, mwfFrom, w.1, ih w.2]

theorem mwfFrom_mins [DecidableEq α] (d : Nat → α) {k : Nat} {v : α} (hv : v ≠ d k) {m : SMap α} {lo : Nat} (hk : lo ≤ k)
    (hm : ∀ p ∈ m, p.1 ≠ k) (w : mwfFrom d lo m = true) : mwfFrom d lo (mins k v m) = true := by
  induction m generalizing lo with
  | nil => simp [mins, mwfFrom, hk, hv]
  | cons p t ih =>
    obtain ⟨j, x⟩ := p
    have hj : j ≠ k := hm (j, x) (by simp)
    simp [mwfFrom] at w
    by_cases hlt : k < j
    · simp [mins, hlt, mwfFrom, hk, hv, w.1.2, w.2] <;> omega
    · simp [mins, hlt, mwfFrom, w.1]
      exact ih (by omega) (fun p hp => hm p (by simp [hp])) w.2

/-- A write keeps the canonical form. -/
theorem mwf_mput [DecidableEq α] (d : Nat → α) (m : SMap α) (k : Nat) (v : α) (w : mwf d m = true) :
    mwf d (mput m k v (d k)) = true := by
  unfold mput mwf at *
  split
  · exact mwfFrom_mdel d k w
  · next h => exact mwfFrom_mins d h (by omega) (mdel_keys m k) (mwfFrom_mdel d k w)

/-- The removal of a key keeps the canonical form. -/
theorem mwf_mdel [DecidableEq α] (d : Nat → α) (m : SMap α) (k : Nat) (w : mwf d m = true) : mwf d (mdel m k) = true :=
  mwfFrom_mdel d k w

/-! BN words. -/

/-- A read of a BN word after a write of one. -/
theorem Bn.rd_wr (b : Bn) (o o' : Nat) (v : Word) : (b.wr o v).rd o' = if o' = o then v else b.rd o' := by
  unfold Bn.rd Bn.wr
  split
  · next h => subst h; exact mget_mput_self _ _ _ _
  · next h => exact mget_mput_ne _ _ _ _ h

@[simp] theorem Bn.rd_wr_self (b : Bn) (o : Nat) (v : Word) : (b.wr o v).rd o = v := by simp [Bn.rd_wr]

theorem Bn.rd_wr_ne (b : Bn) {o o' : Nat} (v : Word) (h : o' ≠ o) : (b.wr o v).rd o' = b.rd o' := by simp [Bn.rd_wr, h]

/-- A write of a BN word keeps the words in canonical form. -/
theorem Bn.wr_wf (b : Bn) (o : Nat) (v : Word) (w : mwf bnDef b.regs = true) : mwf bnDef (b.wr o v).regs = true :=
  mwf_mput bnDef b.regs o v w

end Sys2Proof.Machine
end

