-- ==== Sys2Proof/Laws/State.lean ====
section
/-! SUPPORT. What each update of the state leaves and sets, a lemma per field, so that no proof unfolds a record update. -/

namespace Sys2Proof.Machine

/-! The package. -/

@[simp] theorem State.setBn_variant (s : State) (u : BnId) (b : Bn) : (s.setBn u b).variant = s.variant := by cases u <;> rfl
@[simp] theorem State.mapBn_variant (s : State) (u : BnId) (g : Bn → Bn) : (s.mapBn u g).variant = s.variant := by cases u <;> rfl
@[simp] theorem State.setBn_gradeH (s : State) (u : BnId) (b : Bn) : (s.setBn u b).gradeH = s.gradeH := by cases u <;> rfl
@[simp] theorem State.mapBn_gradeH (s : State) (u : BnId) (g : Bn → Bn) : (s.mapBn u g).gradeH = s.gradeH := by cases u <;> rfl
@[simp] theorem State.setBn_fvs (s : State) (u : BnId) (b : Bn) : (s.setBn u b).fvs = s.fvs := by cases u <;> rfl
@[simp] theorem State.mapBn_fvs (s : State) (u : BnId) (g : Bn → Bn) : (s.mapBn u g).fvs = s.fvs := by cases u <;> rfl
@[simp] theorem State.setBn_blankPin (s : State) (u : BnId) (b : Bn) : (s.setBn u b).blankPin = s.blankPin := by cases u <;> rfl
@[simp] theorem State.mapBn_blankPin (s : State) (u : BnId) (g : Bn → Bn) : (s.mapBn u g).blankPin = s.blankPin := by cases u <;> rfl
@[simp] theorem State.setBn_trstPin (s : State) (u : BnId) (b : Bn) : (s.setBn u b).trstPin = s.trstPin := by cases u <;> rfl
@[simp] theorem State.mapBn_trstPin (s : State) (u : BnId) (g : Bn → Bn) : (s.mapBn u g).trstPin = s.trstPin := by cases u <;> rfl
@[simp] theorem State.setBn_freeCtr (s : State) (u : BnId) (b : Bn) : (s.setBn u b).freeCtr = s.freeCtr := by cases u <;> rfl
@[simp] theorem State.mapBn_freeCtr (s : State) (u : BnId) (g : Bn → Bn) : (s.mapBn u g).freeCtr = s.freeCtr := by cases u <;> rfl
@[simp] theorem State.setBn_pending (s : State) (u : BnId) (b : Bn) : (s.setBn u b).pending = s.pending := by cases u <;> rfl
@[simp] theorem State.mapBn_pending (s : State) (u : BnId) (g : Bn → Bn) : (s.mapBn u g).pending = s.pending := by cases u <;> rfl
@[simp] theorem State.setFv_variant (s : State) (d : Die) (x : Fv) : (s.setFv d x).variant = s.variant := (rfl)
@[simp] theorem State.mapFv_variant (s : State) (d : Die) (g : Fv → Fv) : (s.mapFv d g).variant = s.variant := (rfl)
@[simp] theorem State.setFv_gradeH (s : State) (d : Die) (x : Fv) : (s.setFv d x).gradeH = s.gradeH := (rfl)
@[simp] theorem State.mapFv_gradeH (s : State) (d : Die) (g : Fv → Fv) : (s.mapFv d g).gradeH = s.gradeH := (rfl)
@[simp] theorem State.setFv_bnA (s : State) (d : Die) (x : Fv) : (s.setFv d x).bnA = s.bnA := (rfl)
@[simp] theorem State.mapFv_bnA (s : State) (d : Die) (g : Fv → Fv) : (s.mapFv d g).bnA = s.bnA := (rfl)
@[simp] theorem State.setFv_bnB (s : State) (d : Die) (x : Fv) : (s.setFv d x).bnB = s.bnB := (rfl)
@[simp] theorem State.mapFv_bnB (s : State) (d : Die) (g : Fv → Fv) : (s.mapFv d g).bnB = s.bnB := (rfl)
@[simp] theorem State.setFv_blankPin (s : State) (d : Die) (x : Fv) : (s.setFv d x).blankPin = s.blankPin := (rfl)
@[simp] theorem State.mapFv_blankPin (s : State) (d : Die) (g : Fv → Fv) : (s.mapFv d g).blankPin = s.blankPin := (rfl)
@[simp] theorem State.setFv_trstPin (s : State) (d : Die) (x : Fv) : (s.setFv d x).trstPin = s.trstPin := (rfl)
@[simp] theorem State.mapFv_trstPin (s : State) (d : Die) (g : Fv → Fv) : (s.mapFv d g).trstPin = s.trstPin := (rfl)
@[simp] theorem State.setFv_freeCtr (s : State) (d : Die) (x : Fv) : (s.setFv d x).freeCtr = s.freeCtr := (rfl)
@[simp] theorem State.mapFv_freeCtr (s : State) (d : Die) (g : Fv → Fv) : (s.mapFv d g).freeCtr = s.freeCtr := (rfl)
@[simp] theorem State.setFv_pending (s : State) (d : Die) (x : Fv) : (s.setFv d x).pending = s.pending := (rfl)
@[simp] theorem State.mapFv_pending (s : State) (d : Die) (g : Fv → Fv) : (s.mapFv d g).pending = s.pending := (rfl)
@[simp] theorem State.free_variant (s : State) (k : Nat) : (s.free k).1.variant = s.variant := (rfl)
@[simp] theorem State.draw_variant (s : State) (k : Nat) : (s.draw k).1.variant = s.variant := (rfl)
@[simp] theorem State.free_gradeH (s : State) (k : Nat) : (s.free k).1.gradeH = s.gradeH := (rfl)
@[simp] theorem State.draw_gradeH (s : State) (k : Nat) : (s.draw k).1.gradeH = s.gradeH := (rfl)
@[simp] theorem State.free_bnA (s : State) (k : Nat) : (s.free k).1.bnA = s.bnA := (rfl)
@[simp] theorem State.draw_bnA (s : State) (k : Nat) : (s.draw k).1.bnA = s.bnA := (rfl)
@[simp] theorem State.free_bnB (s : State) (k : Nat) : (s.free k).1.bnB = s.bnB := (rfl)
@[simp] theorem State.draw_bnB (s : State) (k : Nat) : (s.draw k).1.bnB = s.bnB := (rfl)
@[simp] theorem State.free_fvs (s : State) (k : Nat) : (s.free k).1.fvs = s.fvs := (rfl)
@[simp] theorem State.draw_fvs (s : State) (k : Nat) : (s.draw k).1.fvs = s.fvs := (rfl)
@[simp] theorem State.free_blankPin (s : State) (k : Nat) : (s.free k).1.blankPin = s.blankPin := (rfl)
@[simp] theorem State.draw_blankPin (s : State) (k : Nat) : (s.draw k).1.blankPin = s.blankPin := (rfl)
@[simp] theorem State.free_trstPin (s : State) (k : Nat) : (s.free k).1.trstPin = s.trstPin := (rfl)
@[simp] theorem State.draw_trstPin (s : State) (k : Nat) : (s.draw k).1.trstPin = s.trstPin := (rfl)
@[simp] theorem State.free_pending (s : State) (k : Nat) : (s.free k).1.pending = s.pending := (rfl)
@[simp] theorem State.draw_pending (s : State) (k : Nat) : (s.draw k).1.pending = s.pending := (rfl)

@[simp] theorem State.bn_setBn (s : State) (u : BnId) (b : Bn) : (s.setBn u b).bn u = b := by cases u <;> rfl
theorem State.bn_setBn_other (s : State) (u : BnId) (b : Bn) : (s.setBn u b).bn u.other = s.bn u.other := by cases u <;> rfl
@[simp] theorem State.bn_mapBn (s : State) (u : BnId) (g : Bn → Bn) : (s.mapBn u g).bn u = g (s.bn u) := by cases u <;> rfl
theorem State.bn_mapBn_other (s : State) (u : BnId) (g : Bn → Bn) : (s.mapBn u g).bn u.other = s.bn u.other := by cases u <;> rfl
@[simp] theorem State.setBn_bn (s : State) (u : BnId) : s.setBn u (s.bn u) = s := by cases u <;> rfl
@[simp] theorem State.setBn_setBn (s : State) (u : BnId) (a b : Bn) : (s.setBn u a).setBn u b = s.setBn u b := by cases u <;> rfl
@[simp] theorem State.bn_setFv (s : State) (d : Die) (x : Fv) (u : BnId) : (s.setFv d x).bn u = s.bn u := by cases u <;> rfl
@[simp] theorem State.bn_mapFv (s : State) (d : Die) (g : Fv → Fv) (u : BnId) : (s.mapFv d g).bn u = s.bn u := by cases u <;> rfl
@[simp] theorem State.fv_setBn (s : State) (u : BnId) (b : Bn) (d : Die) : (s.setBn u b).fv d = s.fv d := by cases u <;> rfl
@[simp] theorem State.fv_mapBn (s : State) (u : BnId) (g : Bn → Bn) (d : Die) : (s.mapBn u g).fv d = s.fv d := by cases u <;> rfl
@[simp] theorem State.bn_free (s : State) (k : Nat) (u : BnId) : (s.free k).1.bn u = s.bn u := by cases u <;> rfl
@[simp] theorem State.bn_draw (s : State) (k : Nat) (u : BnId) : (s.draw k).1.bn u = s.bn u := by cases u <;> rfl
@[simp] theorem State.fv_free (s : State) (k : Nat) (d : Die) : (s.free k).1.fv d = s.fv d := (rfl)
@[simp] theorem State.fv_draw (s : State) (k : Nat) (d : Die) : (s.draw k).1.fv d = s.fv d := (rfl)
@[simp] theorem State.fv_setFv (s : State) (d : Die) (x : Fv) : (s.setFv d x).fv d = x := by simp [State.fv, State.setFv]
@[simp] theorem State.setFv_fv (s : State) (d : Die) : s.setFv d (s.fv d) = s := by simp [State.fv, State.setFv]
theorem State.fv_setFv_ne (s : State) {d e : Die} (x : Fv) (h : e ≠ d) : (s.setFv d x).fv e = s.fv e := by
  have : d.val ≠ e.val := fun h' => h (Fin.ext h'.symm)
  simp [State.fv, State.setFv, this]
@[simp] theorem State.fv_mapFv (s : State) (d : Die) (g : Fv → Fv) : (s.mapFv d g).fv d = g (s.fv d) := by simp [State.mapFv]
theorem State.fv_mapFv_ne (s : State) {d e : Die} (g : Fv → Fv) (h : e ≠ d) : (s.mapFv d g).fv e = s.fv e :=
  State.fv_setFv_ne s _ h
@[simp] theorem State.hasBn_setBn (s : State) (u : BnId) (b : Bn) (w : BnId) : (s.setBn u b).hasBn w = s.hasBn w := by
  cases u <;> cases w <;> rfl
@[simp] theorem State.hasBn_mapBn (s : State) (u : BnId) (g : Bn → Bn) (w : BnId) : (s.mapBn u g).hasBn w = s.hasBn w := by
  cases u <;> cases w <;> rfl
@[simp] theorem State.dies_setBn (s : State) (u : BnId) (b : Bn) : (s.setBn u b).dies = s.dies := by cases u <;> rfl
@[simp] theorem State.dies_mapBn (s : State) (u : BnId) (g : Bn → Bn) : (s.mapBn u g).dies = s.dies := by cases u <;> rfl

/-! A BN die: each update sets one field and leaves the others. -/

@[simp] theorem Bn.wr_unit (b : Bn) (o : Nat) (v : Word) : (b.wr o v).unit = b.unit := (rfl)
@[simp] theorem Bn.wr_last (b : Bn) (o : Nat) (v : Word) : (b.wr o v).last = b.last := (rfl)
@[simp] theorem Bn.wr_openPkt (b : Bn) (o : Nat) (v : Word) : (b.wr o v).openPkt = b.openPkt := (rfl)
@[simp] theorem Bn.wr_arrived (b : Bn) (o : Nat) (v : Word) : (b.wr o v).arrived = b.arrived := (rfl)
@[simp] theorem Bn.wr_waiting (b : Bn) (o : Nat) (v : Word) : (b.wr o v).waiting = b.waiting := (rfl)
@[simp] theorem Bn.wr_job (b : Bn) (o : Nat) (v : Word) : (b.wr o v).job = b.job := (rfl)
@[simp] theorem Bn.wr_replies (b : Bn) (o : Nat) (v : Word) : (b.wr o v).replies = b.replies := (rfl)
@[simp] theorem Bn.wr_ctl (b : Bn) (o : Nat) (v : Word) : (b.wr o v).ctl = b.ctl := (rfl)
@[simp] theorem Bn.wr_marksIn (b : Bn) (o : Nat) (v : Word) : (b.wr o v).marksIn = b.marksIn := (rfl)
@[simp] theorem Bn.wr_marksOut (b : Bn) (o : Nat) (v : Word) : (b.wr o v).marksOut = b.marksOut := (rfl)
@[simp] theorem Bn.wr_marksSent (b : Bn) (o : Nat) (v : Word) : (b.wr o v).marksSent = b.marksSent := (rfl)
@[simp] theorem Bn.wr_reqs (b : Bn) (o : Nat) (v : Word) : (b.wr o v).reqs = b.reqs := (rfl)
@[simp] theorem Bn.wr_epochSeen (b : Bn) (o : Nat) (v : Word) : (b.wr o v).epochSeen = b.epochSeen := (rfl)
@[simp] theorem Bn.wr_nextTag (b : Bn) (o : Nat) (v : Word) : (b.wr o v).nextTag = b.nextTag := (rfl)
@[simp] theorem Bn.wr_sess (b : Bn) (o : Nat) (v : Word) : (b.wr o v).sess = b.sess := (rfl)
@[simp] theorem Bn.wr_patches (b : Bn) (o : Nat) (v : Word) : (b.wr o v).patches = b.patches := (rfl)
@[simp] theorem Bn.wr_saved (b : Bn) (o : Nat) (v : Word) : (b.wr o v).saved = b.saved := (rfl)
@[simp] theorem Bn.wr_stage (b : Bn) (o : Nat) (v : Word) : (b.wr o v).stage = b.stage := (rfl)
@[simp] theorem Bn.wr_power (b : Bn) (o : Nat) (v : Word) : (b.wr o v).power = b.power := (rfl)
@[simp] theorem Bn.wr_boot (b : Bn) (o : Nat) (v : Word) : (b.wr o v).boot = b.boot := (rfl)
@[simp] theorem Bn.wr_pantry (b : Bn) (o : Nat) (v : Word) : (b.wr o v).pantry = b.pantry := (rfl)
@[simp] theorem Bn.wr_lanes (b : Bn) (o : Nat) (v : Word) : (b.wr o v).lanes = b.lanes := (rfl)
@[simp] theorem Bn.wr_time (b : Bn) (o : Nat) (v : Word) : (b.wr o v).time = b.time := (rfl)
@[simp] theorem Bn.wr_cyc (b : Bn) (o : Nat) (v : Word) : (b.wr o v).cyc = b.cyc := (rfl)
@[simp] theorem Bn.wr_gal (b : Bn) (o : Nat) (v : Word) : (b.wr o v).gal = b.gal := (rfl)
@[simp] theorem Bn.wr_arr (b : Bn) (o : Nat) (v : Word) : (b.wr o v).arr = b.arr := (rfl)
@[simp] theorem Bn.wr_loader (b : Bn) (o : Nat) (v : Word) : (b.wr o v).loader = b.loader := (rfl)
@[simp] theorem Bn.wr_acq (b : Bn) (o : Nat) (v : Word) : (b.wr o v).acq = b.acq := (rfl)
@[simp] theorem Bn.wr_anchors (b : Bn) (o : Nat) (v : Word) : (b.wr o v).anchors = b.anchors := (rfl)
@[simp] theorem Bn.wr_sheets (b : Bn) (o : Nat) (v : Word) : (b.wr o v).sheets = b.sheets := (rfl)
@[simp] theorem Bn.wr_lease (b : Bn) (o : Nat) (v : Word) : (b.wr o v).lease = b.lease := (rfl)
@[simp] theorem Bn.wr_xl (b : Bn) (o : Nat) (v : Word) : (b.wr o v).xl = b.xl := (rfl)
@[simp] theorem Bn.wr_lig (b : Bn) (o : Nat) (v : Word) : (b.wr o v).lig = b.lig := (rfl)
@[simp] theorem Bn.wr_stats (b : Bn) (o : Nat) (v : Word) : (b.wr o v).stats = b.stats := (rfl)
@[simp] theorem Bn.wr_hkc (b : Bn) (o : Nat) (v : Word) : (b.wr o v).hkc = b.hkc := (rfl)
@[simp] theorem Bn.wr_therm (b : Bn) (o : Nat) (v : Word) : (b.wr o v).therm = b.therm := (rfl)
@[simp] theorem Bn.wr_fst (b : Bn) (o : Nat) (v : Word) : (b.wr o v).fst = b.fst := (rfl)
@[simp] theorem Bn.wr_tap (b : Bn) (o : Nat) (v : Word) : (b.wr o v).tap = b.tap := (rfl)
@[simp] theorem Bn.wrN_unit (b : Bn) (o n : Nat) : (b.wrN o n).unit = b.unit := (rfl)
@[simp] theorem Bn.wrN_last (b : Bn) (o n : Nat) : (b.wrN o n).last = b.last := (rfl)
@[simp] theorem Bn.wrN_openPkt (b : Bn) (o n : Nat) : (b.wrN o n).openPkt = b.openPkt := (rfl)
@[simp] theorem Bn.wrN_arrived (b : Bn) (o n : Nat) : (b.wrN o n).arrived = b.arrived := (rfl)
@[simp] theorem Bn.wrN_waiting (b : Bn) (o n : Nat) : (b.wrN o n).waiting = b.waiting := (rfl)
@[simp] theorem Bn.wrN_job (b : Bn) (o n : Nat) : (b.wrN o n).job = b.job := (rfl)
@[simp] theorem Bn.wrN_replies (b : Bn) (o n : Nat) : (b.wrN o n).replies = b.replies := (rfl)
@[simp] theorem Bn.wrN_ctl (b : Bn) (o n : Nat) : (b.wrN o n).ctl = b.ctl := (rfl)
@[simp] theorem Bn.wrN_marksIn (b : Bn) (o n : Nat) : (b.wrN o n).marksIn = b.marksIn := (rfl)
@[simp] theorem Bn.wrN_marksOut (b : Bn) (o n : Nat) : (b.wrN o n).marksOut = b.marksOut := (rfl)
@[simp] theorem Bn.wrN_marksSent (b : Bn) (o n : Nat) : (b.wrN o n).marksSent = b.marksSent := (rfl)
@[simp] theorem Bn.wrN_reqs (b : Bn) (o n : Nat) : (b.wrN o n).reqs = b.reqs := (rfl)
@[simp] theorem Bn.wrN_epochSeen (b : Bn) (o n : Nat) : (b.wrN o n).epochSeen = b.epochSeen := (rfl)
@[simp] theorem Bn.wrN_nextTag (b : Bn) (o n : Nat) : (b.wrN o n).nextTag = b.nextTag := (rfl)
@[simp] theorem Bn.wrN_sess (b : Bn) (o n : Nat) : (b.wrN o n).sess = b.sess := (rfl)
@[simp] theorem Bn.wrN_patches (b : Bn) (o n : Nat) : (b.wrN o n).patches = b.patches := (rfl)
@[simp] theorem Bn.wrN_saved (b : Bn) (o n : Nat) : (b.wrN o n).saved = b.saved := (rfl)
@[simp] theorem Bn.wrN_stage (b : Bn) (o n : Nat) : (b.wrN o n).stage = b.stage := (rfl)
@[simp] theorem Bn.wrN_power (b : Bn) (o n : Nat) : (b.wrN o n).power = b.power := (rfl)
@[simp] theorem Bn.wrN_boot (b : Bn) (o n : Nat) : (b.wrN o n).boot = b.boot := (rfl)
@[simp] theorem Bn.wrN_pantry (b : Bn) (o n : Nat) : (b.wrN o n).pantry = b.pantry := (rfl)
@[simp] theorem Bn.wrN_lanes (b : Bn) (o n : Nat) : (b.wrN o n).lanes = b.lanes := (rfl)
@[simp] theorem Bn.wrN_time (b : Bn) (o n : Nat) : (b.wrN o n).time = b.time := (rfl)
@[simp] theorem Bn.wrN_cyc (b : Bn) (o n : Nat) : (b.wrN o n).cyc = b.cyc := (rfl)
@[simp] theorem Bn.wrN_gal (b : Bn) (o n : Nat) : (b.wrN o n).gal = b.gal := (rfl)
@[simp] theorem Bn.wrN_arr (b : Bn) (o n : Nat) : (b.wrN o n).arr = b.arr := (rfl)
@[simp] theorem Bn.wrN_loader (b : Bn) (o n : Nat) : (b.wrN o n).loader = b.loader := (rfl)
@[simp] theorem Bn.wrN_acq (b : Bn) (o n : Nat) : (b.wrN o n).acq = b.acq := (rfl)
@[simp] theorem Bn.wrN_anchors (b : Bn) (o n : Nat) : (b.wrN o n).anchors = b.anchors := (rfl)
@[simp] theorem Bn.wrN_sheets (b : Bn) (o n : Nat) : (b.wrN o n).sheets = b.sheets := (rfl)
@[simp] theorem Bn.wrN_lease (b : Bn) (o n : Nat) : (b.wrN o n).lease = b.lease := (rfl)
@[simp] theorem Bn.wrN_xl (b : Bn) (o n : Nat) : (b.wrN o n).xl = b.xl := (rfl)
@[simp] theorem Bn.wrN_lig (b : Bn) (o n : Nat) : (b.wrN o n).lig = b.lig := (rfl)
@[simp] theorem Bn.wrN_stats (b : Bn) (o n : Nat) : (b.wrN o n).stats = b.stats := (rfl)
@[simp] theorem Bn.wrN_hkc (b : Bn) (o n : Nat) : (b.wrN o n).hkc = b.hkc := (rfl)
@[simp] theorem Bn.wrN_therm (b : Bn) (o n : Nat) : (b.wrN o n).therm = b.therm := (rfl)
@[simp] theorem Bn.wrN_fst (b : Bn) (o n : Nat) : (b.wrN o n).fst = b.fst := (rfl)
@[simp] theorem Bn.wrN_tap (b : Bn) (o n : Nat) : (b.wrN o n).tap = b.tap := (rfl)
@[simp] theorem Bn.bumpN_unit (b : Bn) (o k n : Nat) : (b.bumpN o k n).unit = b.unit := (rfl)
@[simp] theorem Bn.bumpN_last (b : Bn) (o k n : Nat) : (b.bumpN o k n).last = b.last := (rfl)
@[simp] theorem Bn.bumpN_openPkt (b : Bn) (o k n : Nat) : (b.bumpN o k n).openPkt = b.openPkt := (rfl)
@[simp] theorem Bn.bumpN_arrived (b : Bn) (o k n : Nat) : (b.bumpN o k n).arrived = b.arrived := (rfl)
@[simp] theorem Bn.bumpN_waiting (b : Bn) (o k n : Nat) : (b.bumpN o k n).waiting = b.waiting := (rfl)
@[simp] theorem Bn.bumpN_job (b : Bn) (o k n : Nat) : (b.bumpN o k n).job = b.job := (rfl)
@[simp] theorem Bn.bumpN_replies (b : Bn) (o k n : Nat) : (b.bumpN o k n).replies = b.replies := (rfl)
@[simp] theorem Bn.bumpN_ctl (b : Bn) (o k n : Nat) : (b.bumpN o k n).ctl = b.ctl := (rfl)
@[simp] theorem Bn.bumpN_marksIn (b : Bn) (o k n : Nat) : (b.bumpN o k n).marksIn = b.marksIn := (rfl)
@[simp] theorem Bn.bumpN_marksOut (b : Bn) (o k n : Nat) : (b.bumpN o k n).marksOut = b.marksOut := (rfl)
@[simp] theorem Bn.bumpN_marksSent (b : Bn) (o k n : Nat) : (b.bumpN o k n).marksSent = b.marksSent := (rfl)
@[simp] theorem Bn.bumpN_reqs (b : Bn) (o k n : Nat) : (b.bumpN o k n).reqs = b.reqs := (rfl)
@[simp] theorem Bn.bumpN_epochSeen (b : Bn) (o k n : Nat) : (b.bumpN o k n).epochSeen = b.epochSeen := (rfl)
@[simp] theorem Bn.bumpN_nextTag (b : Bn) (o k n : Nat) : (b.bumpN o k n).nextTag = b.nextTag := (rfl)
@[simp] theorem Bn.bumpN_sess (b : Bn) (o k n : Nat) : (b.bumpN o k n).sess = b.sess := (rfl)
@[simp] theorem Bn.bumpN_patches (b : Bn) (o k n : Nat) : (b.bumpN o k n).patches = b.patches := (rfl)
@[simp] theorem Bn.bumpN_saved (b : Bn) (o k n : Nat) : (b.bumpN o k n).saved = b.saved := (rfl)
@[simp] theorem Bn.bumpN_stage (b : Bn) (o k n : Nat) : (b.bumpN o k n).stage = b.stage := (rfl)
@[simp] theorem Bn.bumpN_power (b : Bn) (o k n : Nat) : (b.bumpN o k n).power = b.power := (rfl)
@[simp] theorem Bn.bumpN_boot (b : Bn) (o k n : Nat) : (b.bumpN o k n).boot = b.boot := (rfl)
@[simp] theorem Bn.bumpN_pantry (b : Bn) (o k n : Nat) : (b.bumpN o k n).pantry = b.pantry := (rfl)
@[simp] theorem Bn.bumpN_lanes (b : Bn) (o k n : Nat) : (b.bumpN o k n).lanes = b.lanes := (rfl)
@[simp] theorem Bn.bumpN_time (b : Bn) (o k n : Nat) : (b.bumpN o k n).time = b.time := (rfl)
@[simp] theorem Bn.bumpN_cyc (b : Bn) (o k n : Nat) : (b.bumpN o k n).cyc = b.cyc := (rfl)
@[simp] theorem Bn.bumpN_gal (b : Bn) (o k n : Nat) : (b.bumpN o k n).gal = b.gal := (rfl)
@[simp] theorem Bn.bumpN_arr (b : Bn) (o k n : Nat) : (b.bumpN o k n).arr = b.arr := (rfl)
@[simp] theorem Bn.bumpN_loader (b : Bn) (o k n : Nat) : (b.bumpN o k n).loader = b.loader := (rfl)
@[simp] theorem Bn.bumpN_acq (b : Bn) (o k n : Nat) : (b.bumpN o k n).acq = b.acq := (rfl)
@[simp] theorem Bn.bumpN_anchors (b : Bn) (o k n : Nat) : (b.bumpN o k n).anchors = b.anchors := (rfl)
@[simp] theorem Bn.bumpN_sheets (b : Bn) (o k n : Nat) : (b.bumpN o k n).sheets = b.sheets := (rfl)
@[simp] theorem Bn.bumpN_lease (b : Bn) (o k n : Nat) : (b.bumpN o k n).lease = b.lease := (rfl)
@[simp] theorem Bn.bumpN_xl (b : Bn) (o k n : Nat) : (b.bumpN o k n).xl = b.xl := (rfl)
@[simp] theorem Bn.bumpN_lig (b : Bn) (o k n : Nat) : (b.bumpN o k n).lig = b.lig := (rfl)
@[simp] theorem Bn.bumpN_stats (b : Bn) (o k n : Nat) : (b.bumpN o k n).stats = b.stats := (rfl)
@[simp] theorem Bn.bumpN_hkc (b : Bn) (o k n : Nat) : (b.bumpN o k n).hkc = b.hkc := (rfl)
@[simp] theorem Bn.bumpN_therm (b : Bn) (o k n : Nat) : (b.bumpN o k n).therm = b.therm := (rfl)
@[simp] theorem Bn.bumpN_fst (b : Bn) (o k n : Nat) : (b.bumpN o k n).fst = b.fst := (rfl)
@[simp] theorem Bn.bumpN_tap (b : Bn) (o k n : Nat) : (b.bumpN o k n).tap = b.tap := (rfl)
@[simp] theorem Bn.bump_unit (b : Bn) (o : Nat) : (b.bump o).unit = b.unit := (rfl)
@[simp] theorem Bn.bump_last (b : Bn) (o : Nat) : (b.bump o).last = b.last := (rfl)
@[simp] theorem Bn.bump_openPkt (b : Bn) (o : Nat) : (b.bump o).openPkt = b.openPkt := (rfl)
@[simp] theorem Bn.bump_arrived (b : Bn) (o : Nat) : (b.bump o).arrived = b.arrived := (rfl)
@[simp] theorem Bn.bump_waiting (b : Bn) (o : Nat) : (b.bump o).waiting = b.waiting := (rfl)
@[simp] theorem Bn.bump_job (b : Bn) (o : Nat) : (b.bump o).job = b.job := (rfl)
@[simp] theorem Bn.bump_replies (b : Bn) (o : Nat) : (b.bump o).replies = b.replies := (rfl)
@[simp] theorem Bn.bump_ctl (b : Bn) (o : Nat) : (b.bump o).ctl = b.ctl := (rfl)
@[simp] theorem Bn.bump_marksIn (b : Bn) (o : Nat) : (b.bump o).marksIn = b.marksIn := (rfl)
@[simp] theorem Bn.bump_marksOut (b : Bn) (o : Nat) : (b.bump o).marksOut = b.marksOut := (rfl)
@[simp] theorem Bn.bump_marksSent (b : Bn) (o : Nat) : (b.bump o).marksSent = b.marksSent := (rfl)
@[simp] theorem Bn.bump_reqs (b : Bn) (o : Nat) : (b.bump o).reqs = b.reqs := (rfl)
@[simp] theorem Bn.bump_epochSeen (b : Bn) (o : Nat) : (b.bump o).epochSeen = b.epochSeen := (rfl)
@[simp] theorem Bn.bump_nextTag (b : Bn) (o : Nat) : (b.bump o).nextTag = b.nextTag := (rfl)
@[simp] theorem Bn.bump_sess (b : Bn) (o : Nat) : (b.bump o).sess = b.sess := (rfl)
@[simp] theorem Bn.bump_patches (b : Bn) (o : Nat) : (b.bump o).patches = b.patches := (rfl)
@[simp] theorem Bn.bump_saved (b : Bn) (o : Nat) : (b.bump o).saved = b.saved := (rfl)
@[simp] theorem Bn.bump_stage (b : Bn) (o : Nat) : (b.bump o).stage = b.stage := (rfl)
@[simp] theorem Bn.bump_power (b : Bn) (o : Nat) : (b.bump o).power = b.power := (rfl)
@[simp] theorem Bn.bump_boot (b : Bn) (o : Nat) : (b.bump o).boot = b.boot := (rfl)
@[simp] theorem Bn.bump_pantry (b : Bn) (o : Nat) : (b.bump o).pantry = b.pantry := (rfl)
@[simp] theorem Bn.bump_lanes (b : Bn) (o : Nat) : (b.bump o).lanes = b.lanes := (rfl)
@[simp] theorem Bn.bump_time (b : Bn) (o : Nat) : (b.bump o).time = b.time := (rfl)
@[simp] theorem Bn.bump_cyc (b : Bn) (o : Nat) : (b.bump o).cyc = b.cyc := (rfl)
@[simp] theorem Bn.bump_gal (b : Bn) (o : Nat) : (b.bump o).gal = b.gal := (rfl)
@[simp] theorem Bn.bump_arr (b : Bn) (o : Nat) : (b.bump o).arr = b.arr := (rfl)
@[simp] theorem Bn.bump_loader (b : Bn) (o : Nat) : (b.bump o).loader = b.loader := (rfl)
@[simp] theorem Bn.bump_acq (b : Bn) (o : Nat) : (b.bump o).acq = b.acq := (rfl)
@[simp] theorem Bn.bump_anchors (b : Bn) (o : Nat) : (b.bump o).anchors = b.anchors := (rfl)
@[simp] theorem Bn.bump_sheets (b : Bn) (o : Nat) : (b.bump o).sheets = b.sheets := (rfl)
@[simp] theorem Bn.bump_lease (b : Bn) (o : Nat) : (b.bump o).lease = b.lease := (rfl)
@[simp] theorem Bn.bump_xl (b : Bn) (o : Nat) : (b.bump o).xl = b.xl := (rfl)
@[simp] theorem Bn.bump_lig (b : Bn) (o : Nat) : (b.bump o).lig = b.lig := (rfl)
@[simp] theorem Bn.bump_stats (b : Bn) (o : Nat) : (b.bump o).stats = b.stats := (rfl)
@[simp] theorem Bn.bump_hkc (b : Bn) (o : Nat) : (b.bump o).hkc = b.hkc := (rfl)
@[simp] theorem Bn.bump_therm (b : Bn) (o : Nat) : (b.bump o).therm = b.therm := (rfl)
@[simp] theorem Bn.bump_fst (b : Bn) (o : Nat) : (b.bump o).fst = b.fst := (rfl)
@[simp] theorem Bn.bump_tap (b : Bn) (o : Nat) : (b.bump o).tap = b.tap := (rfl)
@[simp] theorem Bn.bit_unit (b : Bn) (o i : Nat) (v : Bool) : (b.bit o i v).unit = b.unit := (rfl)
@[simp] theorem Bn.bit_last (b : Bn) (o i : Nat) (v : Bool) : (b.bit o i v).last = b.last := (rfl)
@[simp] theorem Bn.bit_openPkt (b : Bn) (o i : Nat) (v : Bool) : (b.bit o i v).openPkt = b.openPkt := (rfl)
@[simp] theorem Bn.bit_arrived (b : Bn) (o i : Nat) (v : Bool) : (b.bit o i v).arrived = b.arrived := (rfl)
@[simp] theorem Bn.bit_waiting (b : Bn) (o i : Nat) (v : Bool) : (b.bit o i v).waiting = b.waiting := (rfl)
@[simp] theorem Bn.bit_job (b : Bn) (o i : Nat) (v : Bool) : (b.bit o i v).job = b.job := (rfl)
@[simp] theorem Bn.bit_replies (b : Bn) (o i : Nat) (v : Bool) : (b.bit o i v).replies = b.replies := (rfl)
@[simp] theorem Bn.bit_ctl (b : Bn) (o i : Nat) (v : Bool) : (b.bit o i v).ctl = b.ctl := (rfl)
@[simp] theorem Bn.bit_marksIn (b : Bn) (o i : Nat) (v : Bool) : (b.bit o i v).marksIn = b.marksIn := (rfl)
@[simp] theorem Bn.bit_marksOut (b : Bn) (o i : Nat) (v : Bool) : (b.bit o i v).marksOut = b.marksOut := (rfl)
@[simp] theorem Bn.bit_marksSent (b : Bn) (o i : Nat) (v : Bool) : (b.bit o i v).marksSent = b.marksSent := (rfl)
@[simp] theorem Bn.bit_reqs (b : Bn) (o i : Nat) (v : Bool) : (b.bit o i v).reqs = b.reqs := (rfl)
@[simp] theorem Bn.bit_epochSeen (b : Bn) (o i : Nat) (v : Bool) : (b.bit o i v).epochSeen = b.epochSeen := (rfl)
@[simp] theorem Bn.bit_nextTag (b : Bn) (o i : Nat) (v : Bool) : (b.bit o i v).nextTag = b.nextTag := (rfl)
@[simp] theorem Bn.bit_sess (b : Bn) (o i : Nat) (v : Bool) : (b.bit o i v).sess = b.sess := (rfl)
@[simp] theorem Bn.bit_patches (b : Bn) (o i : Nat) (v : Bool) : (b.bit o i v).patches = b.patches := (rfl)
@[simp] theorem Bn.bit_saved (b : Bn) (o i : Nat) (v : Bool) : (b.bit o i v).saved = b.saved := (rfl)
@[simp] theorem Bn.bit_stage (b : Bn) (o i : Nat) (v : Bool) : (b.bit o i v).stage = b.stage := (rfl)
@[simp] theorem Bn.bit_power (b : Bn) (o i : Nat) (v : Bool) : (b.bit o i v).power = b.power := (rfl)
@[simp] theorem Bn.bit_boot (b : Bn) (o i : Nat) (v : Bool) : (b.bit o i v).boot = b.boot := (rfl)
@[simp] theorem Bn.bit_pantry (b : Bn) (o i : Nat) (v : Bool) : (b.bit o i v).pantry = b.pantry := (rfl)
@[simp] theorem Bn.bit_lanes (b : Bn) (o i : Nat) (v : Bool) : (b.bit o i v).lanes = b.lanes := (rfl)
@[simp] theorem Bn.bit_time (b : Bn) (o i : Nat) (v : Bool) : (b.bit o i v).time = b.time := (rfl)
@[simp] theorem Bn.bit_cyc (b : Bn) (o i : Nat) (v : Bool) : (b.bit o i v).cyc = b.cyc := (rfl)
@[simp] theorem Bn.bit_gal (b : Bn) (o i : Nat) (v : Bool) : (b.bit o i v).gal = b.gal := (rfl)
@[simp] theorem Bn.bit_arr (b : Bn) (o i : Nat) (v : Bool) : (b.bit o i v).arr = b.arr := (rfl)
@[simp] theorem Bn.bit_loader (b : Bn) (o i : Nat) (v : Bool) : (b.bit o i v).loader = b.loader := (rfl)
@[simp] theorem Bn.bit_acq (b : Bn) (o i : Nat) (v : Bool) : (b.bit o i v).acq = b.acq := (rfl)
@[simp] theorem Bn.bit_anchors (b : Bn) (o i : Nat) (v : Bool) : (b.bit o i v).anchors = b.anchors := (rfl)
@[simp] theorem Bn.bit_sheets (b : Bn) (o i : Nat) (v : Bool) : (b.bit o i v).sheets = b.sheets := (rfl)
@[simp] theorem Bn.bit_lease (b : Bn) (o i : Nat) (v : Bool) : (b.bit o i v).lease = b.lease := (rfl)
@[simp] theorem Bn.bit_xl (b : Bn) (o i : Nat) (v : Bool) : (b.bit o i v).xl = b.xl := (rfl)
@[simp] theorem Bn.bit_lig (b : Bn) (o i : Nat) (v : Bool) : (b.bit o i v).lig = b.lig := (rfl)
@[simp] theorem Bn.bit_stats (b : Bn) (o i : Nat) (v : Bool) : (b.bit o i v).stats = b.stats := (rfl)
@[simp] theorem Bn.bit_hkc (b : Bn) (o i : Nat) (v : Bool) : (b.bit o i v).hkc = b.hkc := (rfl)
@[simp] theorem Bn.bit_therm (b : Bn) (o i : Nat) (v : Bool) : (b.bit o i v).therm = b.therm := (rfl)
@[simp] theorem Bn.bit_fst (b : Bn) (o i : Nat) (v : Bool) : (b.bit o i v).fst = b.fst := (rfl)
@[simp] theorem Bn.bit_tap (b : Bn) (o i : Nat) (v : Bool) : (b.bit o i v).tap = b.tap := (rfl)
@[simp] theorem Bn.setDom_unit (b : Bn) (n : Nat) (x : Dom) : (b.setDom n x).unit = b.unit := (rfl)
@[simp] theorem Bn.setDom_last (b : Bn) (n : Nat) (x : Dom) : (b.setDom n x).last = b.last := (rfl)
@[simp] theorem Bn.setDom_regs (b : Bn) (n : Nat) (x : Dom) : (b.setDom n x).regs = b.regs := (rfl)
@[simp] theorem Bn.setDom_openPkt (b : Bn) (n : Nat) (x : Dom) : (b.setDom n x).openPkt = b.openPkt := (rfl)
@[simp] theorem Bn.setDom_arrived (b : Bn) (n : Nat) (x : Dom) : (b.setDom n x).arrived = b.arrived := (rfl)
@[simp] theorem Bn.setDom_waiting (b : Bn) (n : Nat) (x : Dom) : (b.setDom n x).waiting = b.waiting := (rfl)
@[simp] theorem Bn.setDom_job (b : Bn) (n : Nat) (x : Dom) : (b.setDom n x).job = b.job := (rfl)
@[simp] theorem Bn.setDom_replies (b : Bn) (n : Nat) (x : Dom) : (b.setDom n x).replies = b.replies := (rfl)
@[simp] theorem Bn.setDom_ctl (b : Bn) (n : Nat) (x : Dom) : (b.setDom n x).ctl = b.ctl := (rfl)
@[simp] theorem Bn.setDom_marksIn (b : Bn) (n : Nat) (x : Dom) : (b.setDom n x).marksIn = b.marksIn := (rfl)
@[simp] theorem Bn.setDom_marksOut (b : Bn) (n : Nat) (x : Dom) : (b.setDom n x).marksOut = b.marksOut := (rfl)
@[simp] theorem Bn.setDom_marksSent (b : Bn) (n : Nat) (x : Dom) : (b.setDom n x).marksSent = b.marksSent := (rfl)
@[simp] theorem Bn.setDom_reqs (b : Bn) (n : Nat) (x : Dom) : (b.setDom n x).reqs = b.reqs := (rfl)
@[simp] theorem Bn.setDom_epochSeen (b : Bn) (n : Nat) (x : Dom) : (b.setDom n x).epochSeen = b.epochSeen := (rfl)
@[simp] theorem Bn.setDom_nextTag (b : Bn) (n : Nat) (x : Dom) : (b.setDom n x).nextTag = b.nextTag := (rfl)
@[simp] theorem Bn.setDom_sess (b : Bn) (n : Nat) (x : Dom) : (b.setDom n x).sess = b.sess := (rfl)
@[simp] theorem Bn.setDom_patches (b : Bn) (n : Nat) (x : Dom) : (b.setDom n x).patches = b.patches := (rfl)
@[simp] theorem Bn.setDom_saved (b : Bn) (n : Nat) (x : Dom) : (b.setDom n x).saved = b.saved := (rfl)
@[simp] theorem Bn.setDom_stage (b : Bn) (n : Nat) (x : Dom) : (b.setDom n x).stage = b.stage := (rfl)
@[simp] theorem Bn.setDom_boot (b : Bn) (n : Nat) (x : Dom) : (b.setDom n x).boot = b.boot := (rfl)
@[simp] theorem Bn.setDom_pantry (b : Bn) (n : Nat) (x : Dom) : (b.setDom n x).pantry = b.pantry := (rfl)
@[simp] theorem Bn.setDom_lanes (b : Bn) (n : Nat) (x : Dom) : (b.setDom n x).lanes = b.lanes := (rfl)
@[simp] theorem Bn.setDom_time (b : Bn) (n : Nat) (x : Dom) : (b.setDom n x).time = b.time := (rfl)
@[simp] theorem Bn.setDom_cyc (b : Bn) (n : Nat) (x : Dom) : (b.setDom n x).cyc = b.cyc := (rfl)
@[simp] theorem Bn.setDom_gal (b : Bn) (n : Nat) (x : Dom) : (b.setDom n x).gal = b.gal := (rfl)
@[simp] theorem Bn.setDom_arr (b : Bn) (n : Nat) (x : Dom) : (b.setDom n x).arr = b.arr := (rfl)
@[simp] theorem Bn.setDom_loader (b : Bn) (n : Nat) (x : Dom) : (b.setDom n x).loader = b.loader := (rfl)
@[simp] theorem Bn.setDom_acq (b : Bn) (n : Nat) (x : Dom) : (b.setDom n x).acq = b.acq := (rfl)
@[simp] theorem Bn.setDom_anchors (b : Bn) (n : Nat) (x : Dom) : (b.setDom n x).anchors = b.anchors := (rfl)
@[simp] theorem Bn.setDom_sheets (b : Bn) (n : Nat) (x : Dom) : (b.setDom n x).sheets = b.sheets := (rfl)
@[simp] theorem Bn.setDom_lease (b : Bn) (n : Nat) (x : Dom) : (b.setDom n x).lease = b.lease := (rfl)
@[simp] theorem Bn.setDom_xl (b : Bn) (n : Nat) (x : Dom) : (b.setDom n x).xl = b.xl := (rfl)
@[simp] theorem Bn.setDom_lig (b : Bn) (n : Nat) (x : Dom) : (b.setDom n x).lig = b.lig := (rfl)
@[simp] theorem Bn.setDom_stats (b : Bn) (n : Nat) (x : Dom) : (b.setDom n x).stats = b.stats := (rfl)
@[simp] theorem Bn.setDom_hkc (b : Bn) (n : Nat) (x : Dom) : (b.setDom n x).hkc = b.hkc := (rfl)
@[simp] theorem Bn.setDom_therm (b : Bn) (n : Nat) (x : Dom) : (b.setDom n x).therm = b.therm := (rfl)
@[simp] theorem Bn.setDom_fst (b : Bn) (n : Nat) (x : Dom) : (b.setDom n x).fst = b.fst := (rfl)
@[simp] theorem Bn.setDom_tap (b : Bn) (n : Nat) (x : Dom) : (b.setDom n x).tap = b.tap := (rfl)
@[simp] theorem Bn.setLane_unit (b : Bn) (l : Lane) (x : LaneSt) : (b.setLane l x).unit = b.unit := (rfl)
@[simp] theorem Bn.setLane_last (b : Bn) (l : Lane) (x : LaneSt) : (b.setLane l x).last = b.last := (rfl)
@[simp] theorem Bn.setLane_regs (b : Bn) (l : Lane) (x : LaneSt) : (b.setLane l x).regs = b.regs := (rfl)
@[simp] theorem Bn.setLane_openPkt (b : Bn) (l : Lane) (x : LaneSt) : (b.setLane l x).openPkt = b.openPkt := (rfl)
@[simp] theorem Bn.setLane_arrived (b : Bn) (l : Lane) (x : LaneSt) : (b.setLane l x).arrived = b.arrived := (rfl)
@[simp] theorem Bn.setLane_waiting (b : Bn) (l : Lane) (x : LaneSt) : (b.setLane l x).waiting = b.waiting := (rfl)
@[simp] theorem Bn.setLane_job (b : Bn) (l : Lane) (x : LaneSt) : (b.setLane l x).job = b.job := (rfl)
@[simp] theorem Bn.setLane_replies (b : Bn) (l : Lane) (x : LaneSt) : (b.setLane l x).replies = b.replies := (rfl)
@[simp] theorem Bn.setLane_ctl (b : Bn) (l : Lane) (x : LaneSt) : (b.setLane l x).ctl = b.ctl := (rfl)
@[simp] theorem Bn.setLane_marksIn (b : Bn) (l : Lane) (x : LaneSt) : (b.setLane l x).marksIn = b.marksIn := (rfl)
@[simp] theorem Bn.setLane_marksOut (b : Bn) (l : Lane) (x : LaneSt) : (b.setLane l x).marksOut = b.marksOut := (rfl)
@[simp] theorem Bn.setLane_marksSent (b : Bn) (l : Lane) (x : LaneSt) : (b.setLane l x).marksSent = b.marksSent := (rfl)
@[simp] theorem Bn.setLane_reqs (b : Bn) (l : Lane) (x : LaneSt) : (b.setLane l x).reqs = b.reqs := (rfl)
@[simp] theorem Bn.setLane_epochSeen (b : Bn) (l : Lane) (x : LaneSt) : (b.setLane l x).epochSeen = b.epochSeen := (rfl)
@[simp] theorem Bn.setLane_nextTag (b : Bn) (l : Lane) (x : LaneSt) : (b.setLane l x).nextTag = b.nextTag := (rfl)
@[simp] theorem Bn.setLane_sess (b : Bn) (l : Lane) (x : LaneSt) : (b.setLane l x).sess = b.sess := (rfl)
@[simp] theorem Bn.setLane_patches (b : Bn) (l : Lane) (x : LaneSt) : (b.setLane l x).patches = b.patches := (rfl)
@[simp] theorem Bn.setLane_saved (b : Bn) (l : Lane) (x : LaneSt) : (b.setLane l x).saved = b.saved := (rfl)
@[simp] theorem Bn.setLane_stage (b : Bn) (l : Lane) (x : LaneSt) : (b.setLane l x).stage = b.stage := (rfl)
@[simp] theorem Bn.setLane_power (b : Bn) (l : Lane) (x : LaneSt) : (b.setLane l x).power = b.power := (rfl)
@[simp] theorem Bn.setLane_boot (b : Bn) (l : Lane) (x : LaneSt) : (b.setLane l x).boot = b.boot := (rfl)
@[simp] theorem Bn.setLane_pantry (b : Bn) (l : Lane) (x : LaneSt) : (b.setLane l x).pantry = b.pantry := (rfl)
@[simp] theorem Bn.setLane_time (b : Bn) (l : Lane) (x : LaneSt) : (b.setLane l x).time = b.time := (rfl)
@[simp] theorem Bn.setLane_cyc (b : Bn) (l : Lane) (x : LaneSt) : (b.setLane l x).cyc = b.cyc := (rfl)
@[simp] theorem Bn.setLane_gal (b : Bn) (l : Lane) (x : LaneSt) : (b.setLane l x).gal = b.gal := (rfl)
@[simp] theorem Bn.setLane_arr (b : Bn) (l : Lane) (x : LaneSt) : (b.setLane l x).arr = b.arr := (rfl)
@[simp] theorem Bn.setLane_loader (b : Bn) (l : Lane) (x : LaneSt) : (b.setLane l x).loader = b.loader := (rfl)
@[simp] theorem Bn.setLane_acq (b : Bn) (l : Lane) (x : LaneSt) : (b.setLane l x).acq = b.acq := (rfl)
@[simp] theorem Bn.setLane_anchors (b : Bn) (l : Lane) (x : LaneSt) : (b.setLane l x).anchors = b.anchors := (rfl)
@[simp] theorem Bn.setLane_sheets (b : Bn) (l : Lane) (x : LaneSt) : (b.setLane l x).sheets = b.sheets := (rfl)
@[simp] theorem Bn.setLane_lease (b : Bn) (l : Lane) (x : LaneSt) : (b.setLane l x).lease = b.lease := (rfl)
@[simp] theorem Bn.setLane_xl (b : Bn) (l : Lane) (x : LaneSt) : (b.setLane l x).xl = b.xl := (rfl)
@[simp] theorem Bn.setLane_lig (b : Bn) (l : Lane) (x : LaneSt) : (b.setLane l x).lig = b.lig := (rfl)
@[simp] theorem Bn.setLane_stats (b : Bn) (l : Lane) (x : LaneSt) : (b.setLane l x).stats = b.stats := (rfl)
@[simp] theorem Bn.setLane_hkc (b : Bn) (l : Lane) (x : LaneSt) : (b.setLane l x).hkc = b.hkc := (rfl)
@[simp] theorem Bn.setLane_therm (b : Bn) (l : Lane) (x : LaneSt) : (b.setLane l x).therm = b.therm := (rfl)
@[simp] theorem Bn.setLane_fst (b : Bn) (l : Lane) (x : LaneSt) : (b.setLane l x).fst = b.fst := (rfl)
@[simp] theorem Bn.setLane_tap (b : Bn) (l : Lane) (x : LaneSt) : (b.setLane l x).tap = b.tap := (rfl)
@[simp] theorem Bn.setPw_unit (b : Bn) (w : Nat) (v : Word) : (b.setPw w v).unit = b.unit := (rfl)
@[simp] theorem Bn.setPw_last (b : Bn) (w : Nat) (v : Word) : (b.setPw w v).last = b.last := (rfl)
@[simp] theorem Bn.setPw_regs (b : Bn) (w : Nat) (v : Word) : (b.setPw w v).regs = b.regs := (rfl)
@[simp] theorem Bn.setPw_openPkt (b : Bn) (w : Nat) (v : Word) : (b.setPw w v).openPkt = b.openPkt := (rfl)
@[simp] theorem Bn.setPw_arrived (b : Bn) (w : Nat) (v : Word) : (b.setPw w v).arrived = b.arrived := (rfl)
@[simp] theorem Bn.setPw_waiting (b : Bn) (w : Nat) (v : Word) : (b.setPw w v).waiting = b.waiting := (rfl)
@[simp] theorem Bn.setPw_job (b : Bn) (w : Nat) (v : Word) : (b.setPw w v).job = b.job := (rfl)
@[simp] theorem Bn.setPw_replies (b : Bn) (w : Nat) (v : Word) : (b.setPw w v).replies = b.replies := (rfl)
@[simp] theorem Bn.setPw_ctl (b : Bn) (w : Nat) (v : Word) : (b.setPw w v).ctl = b.ctl := (rfl)
@[simp] theorem Bn.setPw_marksIn (b : Bn) (w : Nat) (v : Word) : (b.setPw w v).marksIn = b.marksIn := (rfl)
@[simp] theorem Bn.setPw_marksOut (b : Bn) (w : Nat) (v : Word) : (b.setPw w v).marksOut = b.marksOut := (rfl)
@[simp] theorem Bn.setPw_marksSent (b : Bn) (w : Nat) (v : Word) : (b.setPw w v).marksSent = b.marksSent := (rfl)
@[simp] theorem Bn.setPw_reqs (b : Bn) (w : Nat) (v : Word) : (b.setPw w v).reqs = b.reqs := (rfl)
@[simp] theorem Bn.setPw_epochSeen (b : Bn) (w : Nat) (v : Word) : (b.setPw w v).epochSeen = b.epochSeen := (rfl)
@[simp] theorem Bn.setPw_nextTag (b : Bn) (w : Nat) (v : Word) : (b.setPw w v).nextTag = b.nextTag := (rfl)
@[simp] theorem Bn.setPw_sess (b : Bn) (w : Nat) (v : Word) : (b.setPw w v).sess = b.sess := (rfl)
@[simp] theorem Bn.setPw_patches (b : Bn) (w : Nat) (v : Word) : (b.setPw w v).patches = b.patches := (rfl)
@[simp] theorem Bn.setPw_saved (b : Bn) (w : Nat) (v : Word) : (b.setPw w v).saved = b.saved := (rfl)
@[simp] theorem Bn.setPw_stage (b : Bn) (w : Nat) (v : Word) : (b.setPw w v).stage = b.stage := (rfl)
@[simp] theorem Bn.setPw_power (b : Bn) (w : Nat) (v : Word) : (b.setPw w v).power = b.power := (rfl)
@[simp] theorem Bn.setPw_boot (b : Bn) (w : Nat) (v : Word) : (b.setPw w v).boot = b.boot := (rfl)
@[simp] theorem Bn.setPw_lanes (b : Bn) (w : Nat) (v : Word) : (b.setPw w v).lanes = b.lanes := (rfl)
@[simp] theorem Bn.setPw_time (b : Bn) (w : Nat) (v : Word) : (b.setPw w v).time = b.time := (rfl)
@[simp] theorem Bn.setPw_cyc (b : Bn) (w : Nat) (v : Word) : (b.setPw w v).cyc = b.cyc := (rfl)
@[simp] theorem Bn.setPw_gal (b : Bn) (w : Nat) (v : Word) : (b.setPw w v).gal = b.gal := (rfl)
@[simp] theorem Bn.setPw_arr (b : Bn) (w : Nat) (v : Word) : (b.setPw w v).arr = b.arr := (rfl)
@[simp] theorem Bn.setPw_loader (b : Bn) (w : Nat) (v : Word) : (b.setPw w v).loader = b.loader := (rfl)
@[simp] theorem Bn.setPw_acq (b : Bn) (w : Nat) (v : Word) : (b.setPw w v).acq = b.acq := (rfl)
@[simp] theorem Bn.setPw_anchors (b : Bn) (w : Nat) (v : Word) : (b.setPw w v).anchors = b.anchors := (rfl)
@[simp] theorem Bn.setPw_sheets (b : Bn) (w : Nat) (v : Word) : (b.setPw w v).sheets = b.sheets := (rfl)
@[simp] theorem Bn.setPw_lease (b : Bn) (w : Nat) (v : Word) : (b.setPw w v).lease = b.lease := (rfl)
@[simp] theorem Bn.setPw_xl (b : Bn) (w : Nat) (v : Word) : (b.setPw w v).xl = b.xl := (rfl)
@[simp] theorem Bn.setPw_lig (b : Bn) (w : Nat) (v : Word) : (b.setPw w v).lig = b.lig := (rfl)
@[simp] theorem Bn.setPw_stats (b : Bn) (w : Nat) (v : Word) : (b.setPw w v).stats = b.stats := (rfl)
@[simp] theorem Bn.setPw_hkc (b : Bn) (w : Nat) (v : Word) : (b.setPw w v).hkc = b.hkc := (rfl)
@[simp] theorem Bn.setPw_therm (b : Bn) (w : Nat) (v : Word) : (b.setPw w v).therm = b.therm := (rfl)
@[simp] theorem Bn.setPw_fst (b : Bn) (w : Nat) (v : Word) : (b.setPw w v).fst = b.fst := (rfl)
@[simp] theorem Bn.setPw_tap (b : Bn) (w : Nat) (v : Word) : (b.setPw w v).tap = b.tap := (rfl)
@[simp] theorem Bn.mapTime_unit (b : Bn) (f : Time → Time) : (b.mapTime f).unit = b.unit := (rfl)
@[simp] theorem Bn.mapTime_last (b : Bn) (f : Time → Time) : (b.mapTime f).last = b.last := (rfl)
@[simp] theorem Bn.mapTime_regs (b : Bn) (f : Time → Time) : (b.mapTime f).regs = b.regs := (rfl)
@[simp] theorem Bn.mapTime_openPkt (b : Bn) (f : Time → Time) : (b.mapTime f).openPkt = b.openPkt := (rfl)
@[simp] theorem Bn.mapTime_arrived (b : Bn) (f : Time → Time) : (b.mapTime f).arrived = b.arrived := (rfl)
@[simp] theorem Bn.mapTime_waiting (b : Bn) (f : Time → Time) : (b.mapTime f).waiting = b.waiting := (rfl)
@[simp] theorem Bn.mapTime_job (b : Bn) (f : Time → Time) : (b.mapTime f).job = b.job := (rfl)
@[simp] theorem Bn.mapTime_replies (b : Bn) (f : Time → Time) : (b.mapTime f).replies = b.replies := (rfl)
@[simp] theorem Bn.mapTime_ctl (b : Bn) (f : Time → Time) : (b.mapTime f).ctl = b.ctl := (rfl)
@[simp] theorem Bn.mapTime_marksIn (b : Bn) (f : Time → Time) : (b.mapTime f).marksIn = b.marksIn := (rfl)
@[simp] theorem Bn.mapTime_marksOut (b : Bn) (f : Time → Time) : (b.mapTime f).marksOut = b.marksOut := (rfl)
@[simp] theorem Bn.mapTime_marksSent (b : Bn) (f : Time → Time) : (b.mapTime f).marksSent = b.marksSent := (rfl)
@[simp] theorem Bn.mapTime_reqs (b : Bn) (f : Time → Time) : (b.mapTime f).reqs = b.reqs := (rfl)
@[simp] theorem Bn.mapTime_epochSeen (b : Bn) (f : Time → Time) : (b.mapTime f).epochSeen = b.epochSeen := (rfl)
@[simp] theorem Bn.mapTime_nextTag (b : Bn) (f : Time → Time) : (b.mapTime f).nextTag = b.nextTag := (rfl)
@[simp] theorem Bn.mapTime_sess (b : Bn) (f : Time → Time) : (b.mapTime f).sess = b.sess := (rfl)
@[simp] theorem Bn.mapTime_patches (b : Bn) (f : Time → Time) : (b.mapTime f).patches = b.patches := (rfl)
@[simp] theorem Bn.mapTime_saved (b : Bn) (f : Time → Time) : (b.mapTime f).saved = b.saved := (rfl)
@[simp] theorem Bn.mapTime_stage (b : Bn) (f : Time → Time) : (b.mapTime f).stage = b.stage := (rfl)
@[simp] theorem Bn.mapTime_power (b : Bn) (f : Time → Time) : (b.mapTime f).power = b.power := (rfl)
@[simp] theorem Bn.mapTime_boot (b : Bn) (f : Time → Time) : (b.mapTime f).boot = b.boot := (rfl)
@[simp] theorem Bn.mapTime_pantry (b : Bn) (f : Time → Time) : (b.mapTime f).pantry = b.pantry := (rfl)
@[simp] theorem Bn.mapTime_lanes (b : Bn) (f : Time → Time) : (b.mapTime f).lanes = b.lanes := (rfl)
@[simp] theorem Bn.mapTime_cyc (b : Bn) (f : Time → Time) : (b.mapTime f).cyc = b.cyc := (rfl)
@[simp] theorem Bn.mapTime_gal (b : Bn) (f : Time → Time) : (b.mapTime f).gal = b.gal := (rfl)
@[simp] theorem Bn.mapTime_arr (b : Bn) (f : Time → Time) : (b.mapTime f).arr = b.arr := (rfl)
@[simp] theorem Bn.mapTime_loader (b : Bn) (f : Time → Time) : (b.mapTime f).loader = b.loader := (rfl)
@[simp] theorem Bn.mapTime_acq (b : Bn) (f : Time → Time) : (b.mapTime f).acq = b.acq := (rfl)
@[simp] theorem Bn.mapTime_anchors (b : Bn) (f : Time → Time) : (b.mapTime f).anchors = b.anchors := (rfl)
@[simp] theorem Bn.mapTime_sheets (b : Bn) (f : Time → Time) : (b.mapTime f).sheets = b.sheets := (rfl)
@[simp] theorem Bn.mapTime_lease (b : Bn) (f : Time → Time) : (b.mapTime f).lease = b.lease := (rfl)
@[simp] theorem Bn.mapTime_xl (b : Bn) (f : Time → Time) : (b.mapTime f).xl = b.xl := (rfl)
@[simp] theorem Bn.mapTime_lig (b : Bn) (f : Time → Time) : (b.mapTime f).lig = b.lig := (rfl)
@[simp] theorem Bn.mapTime_stats (b : Bn) (f : Time → Time) : (b.mapTime f).stats = b.stats := (rfl)
@[simp] theorem Bn.mapTime_hkc (b : Bn) (f : Time → Time) : (b.mapTime f).hkc = b.hkc := (rfl)
@[simp] theorem Bn.mapTime_therm (b : Bn) (f : Time → Time) : (b.mapTime f).therm = b.therm := (rfl)
@[simp] theorem Bn.mapTime_fst (b : Bn) (f : Time → Time) : (b.mapTime f).fst = b.fst := (rfl)
@[simp] theorem Bn.mapTime_tap (b : Bn) (f : Time → Time) : (b.mapTime f).tap = b.tap := (rfl)
@[simp] theorem Bn.mapTime_time (b : Bn) (f : Time → Time) : (b.mapTime f).time = f b.time := (rfl)
@[simp] theorem Bn.mapLease_unit (b : Bn) (f : LeaseSt → LeaseSt) : (b.mapLease f).unit = b.unit := (rfl)
@[simp] theorem Bn.mapLease_last (b : Bn) (f : LeaseSt → LeaseSt) : (b.mapLease f).last = b.last := (rfl)
@[simp] theorem Bn.mapLease_regs (b : Bn) (f : LeaseSt → LeaseSt) : (b.mapLease f).regs = b.regs := (rfl)
@[simp] theorem Bn.mapLease_openPkt (b : Bn) (f : LeaseSt → LeaseSt) : (b.mapLease f).openPkt = b.openPkt := (rfl)
@[simp] theorem Bn.mapLease_arrived (b : Bn) (f : LeaseSt → LeaseSt) : (b.mapLease f).arrived = b.arrived := (rfl)
@[simp] theorem Bn.mapLease_waiting (b : Bn) (f : LeaseSt → LeaseSt) : (b.mapLease f).waiting = b.waiting := (rfl)
@[simp] theorem Bn.mapLease_job (b : Bn) (f : LeaseSt → LeaseSt) : (b.mapLease f).job = b.job := (rfl)
@[simp] theorem Bn.mapLease_replies (b : Bn) (f : LeaseSt → LeaseSt) : (b.mapLease f).replies = b.replies := (rfl)
@[simp] theorem Bn.mapLease_ctl (b : Bn) (f : LeaseSt → LeaseSt) : (b.mapLease f).ctl = b.ctl := (rfl)
@[simp] theorem Bn.mapLease_marksIn (b : Bn) (f : LeaseSt → LeaseSt) : (b.mapLease f).marksIn = b.marksIn := (rfl)
@[simp] theorem Bn.mapLease_marksOut (b : Bn) (f : LeaseSt → LeaseSt) : (b.mapLease f).marksOut = b.marksOut := (rfl)
@[simp] theorem Bn.mapLease_marksSent (b : Bn) (f : LeaseSt → LeaseSt) : (b.mapLease f).marksSent = b.marksSent := (rfl)
@[simp] theorem Bn.mapLease_reqs (b : Bn) (f : LeaseSt → LeaseSt) : (b.mapLease f).reqs = b.reqs := (rfl)
@[simp] theorem Bn.mapLease_epochSeen (b : Bn) (f : LeaseSt → LeaseSt) : (b.mapLease f).epochSeen = b.epochSeen := (rfl)
@[simp] theorem Bn.mapLease_nextTag (b : Bn) (f : LeaseSt → LeaseSt) : (b.mapLease f).nextTag = b.nextTag := (rfl)
@[simp] theorem Bn.mapLease_sess (b : Bn) (f : LeaseSt → LeaseSt) : (b.mapLease f).sess = b.sess := (rfl)
@[simp] theorem Bn.mapLease_patches (b : Bn) (f : LeaseSt → LeaseSt) : (b.mapLease f).patches = b.patches := (rfl)
@[simp] theorem Bn.mapLease_saved (b : Bn) (f : LeaseSt → LeaseSt) : (b.mapLease f).saved = b.saved := (rfl)
@[simp] theorem Bn.mapLease_stage (b : Bn) (f : LeaseSt → LeaseSt) : (b.mapLease f).stage = b.stage := (rfl)
@[simp] theorem Bn.mapLease_power (b : Bn) (f : LeaseSt → LeaseSt) : (b.mapLease f).power = b.power := (rfl)
@[simp] theorem Bn.mapLease_boot (b : Bn) (f : LeaseSt → LeaseSt) : (b.mapLease f).boot = b.boot := (rfl)
@[simp] theorem Bn.mapLease_pantry (b : Bn) (f : LeaseSt → LeaseSt) : (b.mapLease f).pantry = b.pantry := (rfl)
@[simp] theorem Bn.mapLease_lanes (b : Bn) (f : LeaseSt → LeaseSt) : (b.mapLease f).lanes = b.lanes := (rfl)
@[simp] theorem Bn.mapLease_time (b : Bn) (f : LeaseSt → LeaseSt) : (b.mapLease f).time = b.time := (rfl)
@[simp] theorem Bn.mapLease_cyc (b : Bn) (f : LeaseSt → LeaseSt) : (b.mapLease f).cyc = b.cyc := (rfl)
@[simp] theorem Bn.mapLease_gal (b : Bn) (f : LeaseSt → LeaseSt) : (b.mapLease f).gal = b.gal := (rfl)
@[simp] theorem Bn.mapLease_arr (b : Bn) (f : LeaseSt → LeaseSt) : (b.mapLease f).arr = b.arr := (rfl)
@[simp] theorem Bn.mapLease_loader (b : Bn) (f : LeaseSt → LeaseSt) : (b.mapLease f).loader = b.loader := (rfl)
@[simp] theorem Bn.mapLease_acq (b : Bn) (f : LeaseSt → LeaseSt) : (b.mapLease f).acq = b.acq := (rfl)
@[simp] theorem Bn.mapLease_anchors (b : Bn) (f : LeaseSt → LeaseSt) : (b.mapLease f).anchors = b.anchors := (rfl)
@[simp] theorem Bn.mapLease_sheets (b : Bn) (f : LeaseSt → LeaseSt) : (b.mapLease f).sheets = b.sheets := (rfl)
@[simp] theorem Bn.mapLease_xl (b : Bn) (f : LeaseSt → LeaseSt) : (b.mapLease f).xl = b.xl := (rfl)
@[simp] theorem Bn.mapLease_lig (b : Bn) (f : LeaseSt → LeaseSt) : (b.mapLease f).lig = b.lig := (rfl)
@[simp] theorem Bn.mapLease_stats (b : Bn) (f : LeaseSt → LeaseSt) : (b.mapLease f).stats = b.stats := (rfl)
@[simp] theorem Bn.mapLease_hkc (b : Bn) (f : LeaseSt → LeaseSt) : (b.mapLease f).hkc = b.hkc := (rfl)
@[simp] theorem Bn.mapLease_therm (b : Bn) (f : LeaseSt → LeaseSt) : (b.mapLease f).therm = b.therm := (rfl)
@[simp] theorem Bn.mapLease_fst (b : Bn) (f : LeaseSt → LeaseSt) : (b.mapLease f).fst = b.fst := (rfl)
@[simp] theorem Bn.mapLease_tap (b : Bn) (f : LeaseSt → LeaseSt) : (b.mapLease f).tap = b.tap := (rfl)
@[simp] theorem Bn.mapLease_lease (b : Bn) (f : LeaseSt → LeaseSt) : (b.mapLease f).lease = f b.lease := (rfl)
@[simp] theorem Bn.mapPower_unit (b : Bn) (f : Power → Power) : (b.mapPower f).unit = b.unit := (rfl)
@[simp] theorem Bn.mapPower_last (b : Bn) (f : Power → Power) : (b.mapPower f).last = b.last := (rfl)
@[simp] theorem Bn.mapPower_regs (b : Bn) (f : Power → Power) : (b.mapPower f).regs = b.regs := (rfl)
@[simp] theorem Bn.mapPower_openPkt (b : Bn) (f : Power → Power) : (b.mapPower f).openPkt = b.openPkt := (rfl)
@[simp] theorem Bn.mapPower_arrived (b : Bn) (f : Power → Power) : (b.mapPower f).arrived = b.arrived := (rfl)
@[simp] theorem Bn.mapPower_waiting (b : Bn) (f : Power → Power) : (b.mapPower f).waiting = b.waiting := (rfl)
@[simp] theorem Bn.mapPower_job (b : Bn) (f : Power → Power) : (b.mapPower f).job = b.job := (rfl)
@[simp] theorem Bn.mapPower_replies (b : Bn) (f : Power → Power) : (b.mapPower f).replies = b.replies := (rfl)
@[simp] theorem Bn.mapPower_ctl (b : Bn) (f : Power → Power) : (b.mapPower f).ctl = b.ctl := (rfl)
@[simp] theorem Bn.mapPower_marksIn (b : Bn) (f : Power → Power) : (b.mapPower f).marksIn = b.marksIn := (rfl)
@[simp] theorem Bn.mapPower_marksOut (b : Bn) (f : Power → Power) : (b.mapPower f).marksOut = b.marksOut := (rfl)
@[simp] theorem Bn.mapPower_marksSent (b : Bn) (f : Power → Power) : (b.mapPower f).marksSent = b.marksSent := (rfl)
@[simp] theorem Bn.mapPower_reqs (b : Bn) (f : Power → Power) : (b.mapPower f).reqs = b.reqs := (rfl)
@[simp] theorem Bn.mapPower_epochSeen (b : Bn) (f : Power → Power) : (b.mapPower f).epochSeen = b.epochSeen := (rfl)
@[simp] theorem Bn.mapPower_nextTag (b : Bn) (f : Power → Power) : (b.mapPower f).nextTag = b.nextTag := (rfl)
@[simp] theorem Bn.mapPower_sess (b : Bn) (f : Power → Power) : (b.mapPower f).sess = b.sess := (rfl)
@[simp] theorem Bn.mapPower_patches (b : Bn) (f : Power → Power) : (b.mapPower f).patches = b.patches := (rfl)
@[simp] theorem Bn.mapPower_saved (b : Bn) (f : Power → Power) : (b.mapPower f).saved = b.saved := (rfl)
@[simp] theorem Bn.mapPower_stage (b : Bn) (f : Power → Power) : (b.mapPower f).stage = b.stage := (rfl)
@[simp] theorem Bn.mapPower_boot (b : Bn) (f : Power → Power) : (b.mapPower f).boot = b.boot := (rfl)
@[simp] theorem Bn.mapPower_pantry (b : Bn) (f : Power → Power) : (b.mapPower f).pantry = b.pantry := (rfl)
@[simp] theorem Bn.mapPower_lanes (b : Bn) (f : Power → Power) : (b.mapPower f).lanes = b.lanes := (rfl)
@[simp] theorem Bn.mapPower_time (b : Bn) (f : Power → Power) : (b.mapPower f).time = b.time := (rfl)
@[simp] theorem Bn.mapPower_cyc (b : Bn) (f : Power → Power) : (b.mapPower f).cyc = b.cyc := (rfl)
@[simp] theorem Bn.mapPower_gal (b : Bn) (f : Power → Power) : (b.mapPower f).gal = b.gal := (rfl)
@[simp] theorem Bn.mapPower_arr (b : Bn) (f : Power → Power) : (b.mapPower f).arr = b.arr := (rfl)
@[simp] theorem Bn.mapPower_loader (b : Bn) (f : Power → Power) : (b.mapPower f).loader = b.loader := (rfl)
@[simp] theorem Bn.mapPower_acq (b : Bn) (f : Power → Power) : (b.mapPower f).acq = b.acq := (rfl)
@[simp] theorem Bn.mapPower_anchors (b : Bn) (f : Power → Power) : (b.mapPower f).anchors = b.anchors := (rfl)
@[simp] theorem Bn.mapPower_sheets (b : Bn) (f : Power → Power) : (b.mapPower f).sheets = b.sheets := (rfl)
@[simp] theorem Bn.mapPower_lease (b : Bn) (f : Power → Power) : (b.mapPower f).lease = b.lease := (rfl)
@[simp] theorem Bn.mapPower_xl (b : Bn) (f : Power → Power) : (b.mapPower f).xl = b.xl := (rfl)
@[simp] theorem Bn.mapPower_lig (b : Bn) (f : Power → Power) : (b.mapPower f).lig = b.lig := (rfl)
@[simp] theorem Bn.mapPower_stats (b : Bn) (f : Power → Power) : (b.mapPower f).stats = b.stats := (rfl)
@[simp] theorem Bn.mapPower_hkc (b : Bn) (f : Power → Power) : (b.mapPower f).hkc = b.hkc := (rfl)
@[simp] theorem Bn.mapPower_therm (b : Bn) (f : Power → Power) : (b.mapPower f).therm = b.therm := (rfl)
@[simp] theorem Bn.mapPower_fst (b : Bn) (f : Power → Power) : (b.mapPower f).fst = b.fst := (rfl)
@[simp] theorem Bn.mapPower_tap (b : Bn) (f : Power → Power) : (b.mapPower f).tap = b.tap := (rfl)
@[simp] theorem Bn.mapPower_power (b : Bn) (f : Power → Power) : (b.mapPower f).power = f b.power := (rfl)
@[simp] theorem Bn.mapStage_unit (b : Bn) (f : Stage → Stage) : (b.mapStage f).unit = b.unit := (rfl)
@[simp] theorem Bn.mapStage_last (b : Bn) (f : Stage → Stage) : (b.mapStage f).last = b.last := (rfl)
@[simp] theorem Bn.mapStage_regs (b : Bn) (f : Stage → Stage) : (b.mapStage f).regs = b.regs := (rfl)
@[simp] theorem Bn.mapStage_openPkt (b : Bn) (f : Stage → Stage) : (b.mapStage f).openPkt = b.openPkt := (rfl)
@[simp] theorem Bn.mapStage_arrived (b : Bn) (f : Stage → Stage) : (b.mapStage f).arrived = b.arrived := (rfl)
@[simp] theorem Bn.mapStage_waiting (b : Bn) (f : Stage → Stage) : (b.mapStage f).waiting = b.waiting := (rfl)
@[simp] theorem Bn.mapStage_job (b : Bn) (f : Stage → Stage) : (b.mapStage f).job = b.job := (rfl)
@[simp] theorem Bn.mapStage_replies (b : Bn) (f : Stage → Stage) : (b.mapStage f).replies = b.replies := (rfl)
@[simp] theorem Bn.mapStage_ctl (b : Bn) (f : Stage → Stage) : (b.mapStage f).ctl = b.ctl := (rfl)
@[simp] theorem Bn.mapStage_marksIn (b : Bn) (f : Stage → Stage) : (b.mapStage f).marksIn = b.marksIn := (rfl)
@[simp] theorem Bn.mapStage_marksOut (b : Bn) (f : Stage → Stage) : (b.mapStage f).marksOut = b.marksOut := (rfl)
@[simp] theorem Bn.mapStage_marksSent (b : Bn) (f : Stage → Stage) : (b.mapStage f).marksSent = b.marksSent := (rfl)
@[simp] theorem Bn.mapStage_reqs (b : Bn) (f : Stage → Stage) : (b.mapStage f).reqs = b.reqs := (rfl)
@[simp] theorem Bn.mapStage_epochSeen (b : Bn) (f : Stage → Stage) : (b.mapStage f).epochSeen = b.epochSeen := (rfl)
@[simp] theorem Bn.mapStage_nextTag (b : Bn) (f : Stage → Stage) : (b.mapStage f).nextTag = b.nextTag := (rfl)
@[simp] theorem Bn.mapStage_sess (b : Bn) (f : Stage → Stage) : (b.mapStage f).sess = b.sess := (rfl)
@[simp] theorem Bn.mapStage_patches (b : Bn) (f : Stage → Stage) : (b.mapStage f).patches = b.patches := (rfl)
@[simp] theorem Bn.mapStage_saved (b : Bn) (f : Stage → Stage) : (b.mapStage f).saved = b.saved := (rfl)
@[simp] theorem Bn.mapStage_power (b : Bn) (f : Stage → Stage) : (b.mapStage f).power = b.power := (rfl)
@[simp] theorem Bn.mapStage_boot (b : Bn) (f : Stage → Stage) : (b.mapStage f).boot = b.boot := (rfl)
@[simp] theorem Bn.mapStage_pantry (b : Bn) (f : Stage → Stage) : (b.mapStage f).pantry = b.pantry := (rfl)
@[simp] theorem Bn.mapStage_lanes (b : Bn) (f : Stage → Stage) : (b.mapStage f).lanes = b.lanes := (rfl)
@[simp] theorem Bn.mapStage_time (b : Bn) (f : Stage → Stage) : (b.mapStage f).time = b.time := (rfl)
@[simp] theorem Bn.mapStage_cyc (b : Bn) (f : Stage → Stage) : (b.mapStage f).cyc = b.cyc := (rfl)
@[simp] theorem Bn.mapStage_gal (b : Bn) (f : Stage → Stage) : (b.mapStage f).gal = b.gal := (rfl)
@[simp] theorem Bn.mapStage_arr (b : Bn) (f : Stage → Stage) : (b.mapStage f).arr = b.arr := (rfl)
@[simp] theorem Bn.mapStage_loader (b : Bn) (f : Stage → Stage) : (b.mapStage f).loader = b.loader := (rfl)
@[simp] theorem Bn.mapStage_acq (b : Bn) (f : Stage → Stage) : (b.mapStage f).acq = b.acq := (rfl)
@[simp] theorem Bn.mapStage_anchors (b : Bn) (f : Stage → Stage) : (b.mapStage f).anchors = b.anchors := (rfl)
@[simp] theorem Bn.mapStage_sheets (b : Bn) (f : Stage → Stage) : (b.mapStage f).sheets = b.sheets := (rfl)
@[simp] theorem Bn.mapStage_lease (b : Bn) (f : Stage → Stage) : (b.mapStage f).lease = b.lease := (rfl)
@[simp] theorem Bn.mapStage_xl (b : Bn) (f : Stage → Stage) : (b.mapStage f).xl = b.xl := (rfl)
@[simp] theorem Bn.mapStage_lig (b : Bn) (f : Stage → Stage) : (b.mapStage f).lig = b.lig := (rfl)
@[simp] theorem Bn.mapStage_stats (b : Bn) (f : Stage → Stage) : (b.mapStage f).stats = b.stats := (rfl)
@[simp] theorem Bn.mapStage_hkc (b : Bn) (f : Stage → Stage) : (b.mapStage f).hkc = b.hkc := (rfl)
@[simp] theorem Bn.mapStage_therm (b : Bn) (f : Stage → Stage) : (b.mapStage f).therm = b.therm := (rfl)
@[simp] theorem Bn.mapStage_fst (b : Bn) (f : Stage → Stage) : (b.mapStage f).fst = b.fst := (rfl)
@[simp] theorem Bn.mapStage_tap (b : Bn) (f : Stage → Stage) : (b.mapStage f).tap = b.tap := (rfl)
@[simp] theorem Bn.mapStage_stage (b : Bn) (f : Stage → Stage) : (b.mapStage f).stage = f b.stage := (rfl)
@[simp] theorem Bn.mapAcq_unit (b : Bn) (f : Acq → Acq) : (b.mapAcq f).unit = b.unit := (rfl)
@[simp] theorem Bn.mapAcq_last (b : Bn) (f : Acq → Acq) : (b.mapAcq f).last = b.last := (rfl)
@[simp] theorem Bn.mapAcq_regs (b : Bn) (f : Acq → Acq) : (b.mapAcq f).regs = b.regs := (rfl)
@[simp] theorem Bn.mapAcq_openPkt (b : Bn) (f : Acq → Acq) : (b.mapAcq f).openPkt = b.openPkt := (rfl)
@[simp] theorem Bn.mapAcq_arrived (b : Bn) (f : Acq → Acq) : (b.mapAcq f).arrived = b.arrived := (rfl)
@[simp] theorem Bn.mapAcq_waiting (b : Bn) (f : Acq → Acq) : (b.mapAcq f).waiting = b.waiting := (rfl)
@[simp] theorem Bn.mapAcq_job (b : Bn) (f : Acq → Acq) : (b.mapAcq f).job = b.job := (rfl)
@[simp] theorem Bn.mapAcq_replies (b : Bn) (f : Acq → Acq) : (b.mapAcq f).replies = b.replies := (rfl)
@[simp] theorem Bn.mapAcq_ctl (b : Bn) (f : Acq → Acq) : (b.mapAcq f).ctl = b.ctl := (rfl)
@[simp] theorem Bn.mapAcq_marksIn (b : Bn) (f : Acq → Acq) : (b.mapAcq f).marksIn = b.marksIn := (rfl)
@[simp] theorem Bn.mapAcq_marksOut (b : Bn) (f : Acq → Acq) : (b.mapAcq f).marksOut = b.marksOut := (rfl)
@[simp] theorem Bn.mapAcq_marksSent (b : Bn) (f : Acq → Acq) : (b.mapAcq f).marksSent = b.marksSent := (rfl)
@[simp] theorem Bn.mapAcq_reqs (b : Bn) (f : Acq → Acq) : (b.mapAcq f).reqs = b.reqs := (rfl)
@[simp] theorem Bn.mapAcq_epochSeen (b : Bn) (f : Acq → Acq) : (b.mapAcq f).epochSeen = b.epochSeen := (rfl)
@[simp] theorem Bn.mapAcq_nextTag (b : Bn) (f : Acq → Acq) : (b.mapAcq f).nextTag = b.nextTag := (rfl)
@[simp] theorem Bn.mapAcq_sess (b : Bn) (f : Acq → Acq) : (b.mapAcq f).sess = b.sess := (rfl)
@[simp] theorem Bn.mapAcq_patches (b : Bn) (f : Acq → Acq) : (b.mapAcq f).patches = b.patches := (rfl)
@[simp] theorem Bn.mapAcq_saved (b : Bn) (f : Acq → Acq) : (b.mapAcq f).saved = b.saved := (rfl)
@[simp] theorem Bn.mapAcq_stage (b : Bn) (f : Acq → Acq) : (b.mapAcq f).stage = b.stage := (rfl)
@[simp] theorem Bn.mapAcq_power (b : Bn) (f : Acq → Acq) : (b.mapAcq f).power = b.power := (rfl)
@[simp] theorem Bn.mapAcq_boot (b : Bn) (f : Acq → Acq) : (b.mapAcq f).boot = b.boot := (rfl)
@[simp] theorem Bn.mapAcq_pantry (b : Bn) (f : Acq → Acq) : (b.mapAcq f).pantry = b.pantry := (rfl)
@[simp] theorem Bn.mapAcq_lanes (b : Bn) (f : Acq → Acq) : (b.mapAcq f).lanes = b.lanes := (rfl)
@[simp] theorem Bn.mapAcq_time (b : Bn) (f : Acq → Acq) : (b.mapAcq f).time = b.time := (rfl)
@[simp] theorem Bn.mapAcq_cyc (b : Bn) (f : Acq → Acq) : (b.mapAcq f).cyc = b.cyc := (rfl)
@[simp] theorem Bn.mapAcq_gal (b : Bn) (f : Acq → Acq) : (b.mapAcq f).gal = b.gal := (rfl)
@[simp] theorem Bn.mapAcq_arr (b : Bn) (f : Acq → Acq) : (b.mapAcq f).arr = b.arr := (rfl)
@[simp] theorem Bn.mapAcq_loader (b : Bn) (f : Acq → Acq) : (b.mapAcq f).loader = b.loader := (rfl)
@[simp] theorem Bn.mapAcq_anchors (b : Bn) (f : Acq → Acq) : (b.mapAcq f).anchors = b.anchors := (rfl)
@[simp] theorem Bn.mapAcq_sheets (b : Bn) (f : Acq → Acq) : (b.mapAcq f).sheets = b.sheets := (rfl)
@[simp] theorem Bn.mapAcq_lease (b : Bn) (f : Acq → Acq) : (b.mapAcq f).lease = b.lease := (rfl)
@[simp] theorem Bn.mapAcq_xl (b : Bn) (f : Acq → Acq) : (b.mapAcq f).xl = b.xl := (rfl)
@[simp] theorem Bn.mapAcq_lig (b : Bn) (f : Acq → Acq) : (b.mapAcq f).lig = b.lig := (rfl)
@[simp] theorem Bn.mapAcq_stats (b : Bn) (f : Acq → Acq) : (b.mapAcq f).stats = b.stats := (rfl)
@[simp] theorem Bn.mapAcq_hkc (b : Bn) (f : Acq → Acq) : (b.mapAcq f).hkc = b.hkc := (rfl)
@[simp] theorem Bn.mapAcq_therm (b : Bn) (f : Acq → Acq) : (b.mapAcq f).therm = b.therm := (rfl)
@[simp] theorem Bn.mapAcq_fst (b : Bn) (f : Acq → Acq) : (b.mapAcq f).fst = b.fst := (rfl)
@[simp] theorem Bn.mapAcq_tap (b : Bn) (f : Acq → Acq) : (b.mapAcq f).tap = b.tap := (rfl)
@[simp] theorem Bn.mapAcq_acq (b : Bn) (f : Acq → Acq) : (b.mapAcq f).acq = f b.acq := (rfl)
@[simp] theorem Bn.mapGal_unit (b : Bn) (f : Galley → Galley) : (b.mapGal f).unit = b.unit := (rfl)
@[simp] theorem Bn.mapGal_last (b : Bn) (f : Galley → Galley) : (b.mapGal f).last = b.last := (rfl)
@[simp] theorem Bn.mapGal_regs (b : Bn) (f : Galley → Galley) : (b.mapGal f).regs = b.regs := (rfl)
@[simp] theorem Bn.mapGal_openPkt (b : Bn) (f : Galley → Galley) : (b.mapGal f).openPkt = b.openPkt := (rfl)
@[simp] theorem Bn.mapGal_arrived (b : Bn) (f : Galley → Galley) : (b.mapGal f).arrived = b.arrived := (rfl)
@[simp] theorem Bn.mapGal_waiting (b : Bn) (f : Galley → Galley) : (b.mapGal f).waiting = b.waiting := (rfl)
@[simp] theorem Bn.mapGal_job (b : Bn) (f : Galley → Galley) : (b.mapGal f).job = b.job := (rfl)
@[simp] theorem Bn.mapGal_replies (b : Bn) (f : Galley → Galley) : (b.mapGal f).replies = b.replies := (rfl)
@[simp] theorem Bn.mapGal_ctl (b : Bn) (f : Galley → Galley) : (b.mapGal f).ctl = b.ctl := (rfl)
@[simp] theorem Bn.mapGal_marksIn (b : Bn) (f : Galley → Galley) : (b.mapGal f).marksIn = b.marksIn := (rfl)
@[simp] theorem Bn.mapGal_marksOut (b : Bn) (f : Galley → Galley) : (b.mapGal f).marksOut = b.marksOut := (rfl)
@[simp] theorem Bn.mapGal_marksSent (b : Bn) (f : Galley → Galley) : (b.mapGal f).marksSent = b.marksSent := (rfl)
@[simp] theorem Bn.mapGal_reqs (b : Bn) (f : Galley → Galley) : (b.mapGal f).reqs = b.reqs := (rfl)
@[simp] theorem Bn.mapGal_epochSeen (b : Bn) (f : Galley → Galley) : (b.mapGal f).epochSeen = b.epochSeen := (rfl)
@[simp] theorem Bn.mapGal_nextTag (b : Bn) (f : Galley → Galley) : (b.mapGal f).nextTag = b.nextTag := (rfl)
@[simp] theorem Bn.mapGal_sess (b : Bn) (f : Galley → Galley) : (b.mapGal f).sess = b.sess := (rfl)
@[simp] theorem Bn.mapGal_patches (b : Bn) (f : Galley → Galley) : (b.mapGal f).patches = b.patches := (rfl)
@[simp] theorem Bn.mapGal_saved (b : Bn) (f : Galley → Galley) : (b.mapGal f).saved = b.saved := (rfl)
@[simp] theorem Bn.mapGal_stage (b : Bn) (f : Galley → Galley) : (b.mapGal f).stage = b.stage := (rfl)
@[simp] theorem Bn.mapGal_power (b : Bn) (f : Galley → Galley) : (b.mapGal f).power = b.power := (rfl)
@[simp] theorem Bn.mapGal_boot (b : Bn) (f : Galley → Galley) : (b.mapGal f).boot = b.boot := (rfl)
@[simp] theorem Bn.mapGal_pantry (b : Bn) (f : Galley → Galley) : (b.mapGal f).pantry = b.pantry := (rfl)
@[simp] theorem Bn.mapGal_lanes (b : Bn) (f : Galley → Galley) : (b.mapGal f).lanes = b.lanes := (rfl)
@[simp] theorem Bn.mapGal_time (b : Bn) (f : Galley → Galley) : (b.mapGal f).time = b.time := (rfl)
@[simp] theorem Bn.mapGal_cyc (b : Bn) (f : Galley → Galley) : (b.mapGal f).cyc = b.cyc := (rfl)
@[simp] theorem Bn.mapGal_arr (b : Bn) (f : Galley → Galley) : (b.mapGal f).arr = b.arr := (rfl)
@[simp] theorem Bn.mapGal_loader (b : Bn) (f : Galley → Galley) : (b.mapGal f).loader = b.loader := (rfl)
@[simp] theorem Bn.mapGal_acq (b : Bn) (f : Galley → Galley) : (b.mapGal f).acq = b.acq := (rfl)
@[simp] theorem Bn.mapGal_anchors (b : Bn) (f : Galley → Galley) : (b.mapGal f).anchors = b.anchors := (rfl)
@[simp] theorem Bn.mapGal_sheets (b : Bn) (f : Galley → Galley) : (b.mapGal f).sheets = b.sheets := (rfl)
@[simp] theorem Bn.mapGal_lease (b : Bn) (f : Galley → Galley) : (b.mapGal f).lease = b.lease := (rfl)
@[simp] theorem Bn.mapGal_xl (b : Bn) (f : Galley → Galley) : (b.mapGal f).xl = b.xl := (rfl)
@[simp] theorem Bn.mapGal_lig (b : Bn) (f : Galley → Galley) : (b.mapGal f).lig = b.lig := (rfl)
@[simp] theorem Bn.mapGal_stats (b : Bn) (f : Galley → Galley) : (b.mapGal f).stats = b.stats := (rfl)
@[simp] theorem Bn.mapGal_hkc (b : Bn) (f : Galley → Galley) : (b.mapGal f).hkc = b.hkc := (rfl)
@[simp] theorem Bn.mapGal_therm (b : Bn) (f : Galley → Galley) : (b.mapGal f).therm = b.therm := (rfl)
@[simp] theorem Bn.mapGal_fst (b : Bn) (f : Galley → Galley) : (b.mapGal f).fst = b.fst := (rfl)
@[simp] theorem Bn.mapGal_tap (b : Bn) (f : Galley → Galley) : (b.mapGal f).tap = b.tap := (rfl)
@[simp] theorem Bn.mapGal_gal (b : Bn) (f : Galley → Galley) : (b.mapGal f).gal = f b.gal := (rfl)
@[simp] theorem Bn.mapArr_unit (b : Bn) (f : Arr → Arr) : (b.mapArr f).unit = b.unit := (rfl)
@[simp] theorem Bn.mapArr_last (b : Bn) (f : Arr → Arr) : (b.mapArr f).last = b.last := (rfl)
@[simp] theorem Bn.mapArr_regs (b : Bn) (f : Arr → Arr) : (b.mapArr f).regs = b.regs := (rfl)
@[simp] theorem Bn.mapArr_openPkt (b : Bn) (f : Arr → Arr) : (b.mapArr f).openPkt = b.openPkt := (rfl)
@[simp] theorem Bn.mapArr_arrived (b : Bn) (f : Arr → Arr) : (b.mapArr f).arrived = b.arrived := (rfl)
@[simp] theorem Bn.mapArr_waiting (b : Bn) (f : Arr → Arr) : (b.mapArr f).waiting = b.waiting := (rfl)
@[simp] theorem Bn.mapArr_job (b : Bn) (f : Arr → Arr) : (b.mapArr f).job = b.job := (rfl)
@[simp] theorem Bn.mapArr_replies (b : Bn) (f : Arr → Arr) : (b.mapArr f).replies = b.replies := (rfl)
@[simp] theorem Bn.mapArr_ctl (b : Bn) (f : Arr → Arr) : (b.mapArr f).ctl = b.ctl := (rfl)
@[simp] theorem Bn.mapArr_marksIn (b : Bn) (f : Arr → Arr) : (b.mapArr f).marksIn = b.marksIn := (rfl)
@[simp] theorem Bn.mapArr_marksOut (b : Bn) (f : Arr → Arr) : (b.mapArr f).marksOut = b.marksOut := (rfl)
@[simp] theorem Bn.mapArr_marksSent (b : Bn) (f : Arr → Arr) : (b.mapArr f).marksSent = b.marksSent := (rfl)
@[simp] theorem Bn.mapArr_reqs (b : Bn) (f : Arr → Arr) : (b.mapArr f).reqs = b.reqs := (rfl)
@[simp] theorem Bn.mapArr_epochSeen (b : Bn) (f : Arr → Arr) : (b.mapArr f).epochSeen = b.epochSeen := (rfl)
@[simp] theorem Bn.mapArr_nextTag (b : Bn) (f : Arr → Arr) : (b.mapArr f).nextTag = b.nextTag := (rfl)
@[simp] theorem Bn.mapArr_sess (b : Bn) (f : Arr → Arr) : (b.mapArr f).sess = b.sess := (rfl)
@[simp] theorem Bn.mapArr_patches (b : Bn) (f : Arr → Arr) : (b.mapArr f).patches = b.patches := (rfl)
@[simp] theorem Bn.mapArr_saved (b : Bn) (f : Arr → Arr) : (b.mapArr f).saved = b.saved := (rfl)
@[simp] theorem Bn.mapArr_stage (b : Bn) (f : Arr → Arr) : (b.mapArr f).stage = b.stage := (rfl)
@[simp] theorem Bn.mapArr_power (b : Bn) (f : Arr → Arr) : (b.mapArr f).power = b.power := (rfl)
@[simp] theorem Bn.mapArr_boot (b : Bn) (f : Arr → Arr) : (b.mapArr f).boot = b.boot := (rfl)
@[simp] theorem Bn.mapArr_pantry (b : Bn) (f : Arr → Arr) : (b.mapArr f).pantry = b.pantry := (rfl)
@[simp] theorem Bn.mapArr_lanes (b : Bn) (f : Arr → Arr) : (b.mapArr f).lanes = b.lanes := (rfl)
@[simp] theorem Bn.mapArr_time (b : Bn) (f : Arr → Arr) : (b.mapArr f).time = b.time := (rfl)
@[simp] theorem Bn.mapArr_cyc (b : Bn) (f : Arr → Arr) : (b.mapArr f).cyc = b.cyc := (rfl)
@[simp] theorem Bn.mapArr_gal (b : Bn) (f : Arr → Arr) : (b.mapArr f).gal = b.gal := (rfl)
@[simp] theorem Bn.mapArr_loader (b : Bn) (f : Arr → Arr) : (b.mapArr f).loader = b.loader := (rfl)
@[simp] theorem Bn.mapArr_acq (b : Bn) (f : Arr → Arr) : (b.mapArr f).acq = b.acq := (rfl)
@[simp] theorem Bn.mapArr_anchors (b : Bn) (f : Arr → Arr) : (b.mapArr f).anchors = b.anchors := (rfl)
@[simp] theorem Bn.mapArr_sheets (b : Bn) (f : Arr → Arr) : (b.mapArr f).sheets = b.sheets := (rfl)
@[simp] theorem Bn.mapArr_lease (b : Bn) (f : Arr → Arr) : (b.mapArr f).lease = b.lease := (rfl)
@[simp] theorem Bn.mapArr_xl (b : Bn) (f : Arr → Arr) : (b.mapArr f).xl = b.xl := (rfl)
@[simp] theorem Bn.mapArr_lig (b : Bn) (f : Arr → Arr) : (b.mapArr f).lig = b.lig := (rfl)
@[simp] theorem Bn.mapArr_stats (b : Bn) (f : Arr → Arr) : (b.mapArr f).stats = b.stats := (rfl)
@[simp] theorem Bn.mapArr_hkc (b : Bn) (f : Arr → Arr) : (b.mapArr f).hkc = b.hkc := (rfl)
@[simp] theorem Bn.mapArr_therm (b : Bn) (f : Arr → Arr) : (b.mapArr f).therm = b.therm := (rfl)
@[simp] theorem Bn.mapArr_fst (b : Bn) (f : Arr → Arr) : (b.mapArr f).fst = b.fst := (rfl)
@[simp] theorem Bn.mapArr_tap (b : Bn) (f : Arr → Arr) : (b.mapArr f).tap = b.tap := (rfl)
@[simp] theorem Bn.mapArr_arr (b : Bn) (f : Arr → Arr) : (b.mapArr f).arr = f b.arr := (rfl)
@[simp] theorem Bn.mapLoader_unit (b : Bn) (f : Loader → Loader) : (b.mapLoader f).unit = b.unit := (rfl)
@[simp] theorem Bn.mapLoader_last (b : Bn) (f : Loader → Loader) : (b.mapLoader f).last = b.last := (rfl)
@[simp] theorem Bn.mapLoader_regs (b : Bn) (f : Loader → Loader) : (b.mapLoader f).regs = b.regs := (rfl)
@[simp] theorem Bn.mapLoader_openPkt (b : Bn) (f : Loader → Loader) : (b.mapLoader f).openPkt = b.openPkt := (rfl)
@[simp] theorem Bn.mapLoader_arrived (b : Bn) (f : Loader → Loader) : (b.mapLoader f).arrived = b.arrived := (rfl)
@[simp] theorem Bn.mapLoader_waiting (b : Bn) (f : Loader → Loader) : (b.mapLoader f).waiting = b.waiting := (rfl)
@[simp] theorem Bn.mapLoader_job (b : Bn) (f : Loader → Loader) : (b.mapLoader f).job = b.job := (rfl)
@[simp] theorem Bn.mapLoader_replies (b : Bn) (f : Loader → Loader) : (b.mapLoader f).replies = b.replies := (rfl)
@[simp] theorem Bn.mapLoader_ctl (b : Bn) (f : Loader → Loader) : (b.mapLoader f).ctl = b.ctl := (rfl)
@[simp] theorem Bn.mapLoader_marksIn (b : Bn) (f : Loader → Loader) : (b.mapLoader f).marksIn = b.marksIn := (rfl)
@[simp] theorem Bn.mapLoader_marksOut (b : Bn) (f : Loader → Loader) : (b.mapLoader f).marksOut = b.marksOut := (rfl)
@[simp] theorem Bn.mapLoader_marksSent (b : Bn) (f : Loader → Loader) : (b.mapLoader f).marksSent = b.marksSent := (rfl)
@[simp] theorem Bn.mapLoader_reqs (b : Bn) (f : Loader → Loader) : (b.mapLoader f).reqs = b.reqs := (rfl)
@[simp] theorem Bn.mapLoader_epochSeen (b : Bn) (f : Loader → Loader) : (b.mapLoader f).epochSeen = b.epochSeen := (rfl)
@[simp] theorem Bn.mapLoader_nextTag (b : Bn) (f : Loader → Loader) : (b.mapLoader f).nextTag = b.nextTag := (rfl)
@[simp] theorem Bn.mapLoader_sess (b : Bn) (f : Loader → Loader) : (b.mapLoader f).sess = b.sess := (rfl)
@[simp] theorem Bn.mapLoader_patches (b : Bn) (f : Loader → Loader) : (b.mapLoader f).patches = b.patches := (rfl)
@[simp] theorem Bn.mapLoader_saved (b : Bn) (f : Loader → Loader) : (b.mapLoader f).saved = b.saved := (rfl)
@[simp] theorem Bn.mapLoader_stage (b : Bn) (f : Loader → Loader) : (b.mapLoader f).stage = b.stage := (rfl)
@[simp] theorem Bn.mapLoader_power (b : Bn) (f : Loader → Loader) : (b.mapLoader f).power = b.power := (rfl)
@[simp] theorem Bn.mapLoader_boot (b : Bn) (f : Loader → Loader) : (b.mapLoader f).boot = b.boot := (rfl)
@[simp] theorem Bn.mapLoader_pantry (b : Bn) (f : Loader → Loader) : (b.mapLoader f).pantry = b.pantry := (rfl)
@[simp] theorem Bn.mapLoader_lanes (b : Bn) (f : Loader → Loader) : (b.mapLoader f).lanes = b.lanes := (rfl)
@[simp] theorem Bn.mapLoader_time (b : Bn) (f : Loader → Loader) : (b.mapLoader f).time = b.time := (rfl)
@[simp] theorem Bn.mapLoader_cyc (b : Bn) (f : Loader → Loader) : (b.mapLoader f).cyc = b.cyc := (rfl)
@[simp] theorem Bn.mapLoader_gal (b : Bn) (f : Loader → Loader) : (b.mapLoader f).gal = b.gal := (rfl)
@[simp] theorem Bn.mapLoader_arr (b : Bn) (f : Loader → Loader) : (b.mapLoader f).arr = b.arr := (rfl)
@[simp] theorem Bn.mapLoader_acq (b : Bn) (f : Loader → Loader) : (b.mapLoader f).acq = b.acq := (rfl)
@[simp] theorem Bn.mapLoader_anchors (b : Bn) (f : Loader → Loader) : (b.mapLoader f).anchors = b.anchors := (rfl)
@[simp] theorem Bn.mapLoader_sheets (b : Bn) (f : Loader → Loader) : (b.mapLoader f).sheets = b.sheets := (rfl)
@[simp] theorem Bn.mapLoader_lease (b : Bn) (f : Loader → Loader) : (b.mapLoader f).lease = b.lease := (rfl)
@[simp] theorem Bn.mapLoader_xl (b : Bn) (f : Loader → Loader) : (b.mapLoader f).xl = b.xl := (rfl)
@[simp] theorem Bn.mapLoader_lig (b : Bn) (f : Loader → Loader) : (b.mapLoader f).lig = b.lig := (rfl)
@[simp] theorem Bn.mapLoader_stats (b : Bn) (f : Loader → Loader) : (b.mapLoader f).stats = b.stats := (rfl)
@[simp] theorem Bn.mapLoader_hkc (b : Bn) (f : Loader → Loader) : (b.mapLoader f).hkc = b.hkc := (rfl)
@[simp] theorem Bn.mapLoader_therm (b : Bn) (f : Loader → Loader) : (b.mapLoader f).therm = b.therm := (rfl)
@[simp] theorem Bn.mapLoader_fst (b : Bn) (f : Loader → Loader) : (b.mapLoader f).fst = b.fst := (rfl)
@[simp] theorem Bn.mapLoader_tap (b : Bn) (f : Loader → Loader) : (b.mapLoader f).tap = b.tap := (rfl)
@[simp] theorem Bn.mapLoader_loader (b : Bn) (f : Loader → Loader) : (b.mapLoader f).loader = f b.loader := (rfl)
@[simp] theorem Bn.mapBoot_unit (b : Bn) (f : Boot → Boot) : (b.mapBoot f).unit = b.unit := (rfl)
@[simp] theorem Bn.mapBoot_last (b : Bn) (f : Boot → Boot) : (b.mapBoot f).last = b.last := (rfl)
@[simp] theorem Bn.mapBoot_regs (b : Bn) (f : Boot → Boot) : (b.mapBoot f).regs = b.regs := (rfl)
@[simp] theorem Bn.mapBoot_openPkt (b : Bn) (f : Boot → Boot) : (b.mapBoot f).openPkt = b.openPkt := (rfl)
@[simp] theorem Bn.mapBoot_arrived (b : Bn) (f : Boot → Boot) : (b.mapBoot f).arrived = b.arrived := (rfl)
@[simp] theorem Bn.mapBoot_waiting (b : Bn) (f : Boot → Boot) : (b.mapBoot f).waiting = b.waiting := (rfl)
@[simp] theorem Bn.mapBoot_job (b : Bn) (f : Boot → Boot) : (b.mapBoot f).job = b.job := (rfl)
@[simp] theorem Bn.mapBoot_replies (b : Bn) (f : Boot → Boot) : (b.mapBoot f).replies = b.replies := (rfl)
@[simp] theorem Bn.mapBoot_ctl (b : Bn) (f : Boot → Boot) : (b.mapBoot f).ctl = b.ctl := (rfl)
@[simp] theorem Bn.mapBoot_marksIn (b : Bn) (f : Boot → Boot) : (b.mapBoot f).marksIn = b.marksIn := (rfl)
@[simp] theorem Bn.mapBoot_marksOut (b : Bn) (f : Boot → Boot) : (b.mapBoot f).marksOut = b.marksOut := (rfl)
@[simp] theorem Bn.mapBoot_marksSent (b : Bn) (f : Boot → Boot) : (b.mapBoot f).marksSent = b.marksSent := (rfl)
@[simp] theorem Bn.mapBoot_reqs (b : Bn) (f : Boot → Boot) : (b.mapBoot f).reqs = b.reqs := (rfl)
@[simp] theorem Bn.mapBoot_epochSeen (b : Bn) (f : Boot → Boot) : (b.mapBoot f).epochSeen = b.epochSeen := (rfl)
@[simp] theorem Bn.mapBoot_nextTag (b : Bn) (f : Boot → Boot) : (b.mapBoot f).nextTag = b.nextTag := (rfl)
@[simp] theorem Bn.mapBoot_sess (b : Bn) (f : Boot → Boot) : (b.mapBoot f).sess = b.sess := (rfl)
@[simp] theorem Bn.mapBoot_patches (b : Bn) (f : Boot → Boot) : (b.mapBoot f).patches = b.patches := (rfl)
@[simp] theorem Bn.mapBoot_saved (b : Bn) (f : Boot → Boot) : (b.mapBoot f).saved = b.saved := (rfl)
@[simp] theorem Bn.mapBoot_stage (b : Bn) (f : Boot → Boot) : (b.mapBoot f).stage = b.stage := (rfl)
@[simp] theorem Bn.mapBoot_power (b : Bn) (f : Boot → Boot) : (b.mapBoot f).power = b.power := (rfl)
@[simp] theorem Bn.mapBoot_pantry (b : Bn) (f : Boot → Boot) : (b.mapBoot f).pantry = b.pantry := (rfl)
@[simp] theorem Bn.mapBoot_lanes (b : Bn) (f : Boot → Boot) : (b.mapBoot f).lanes = b.lanes := (rfl)
@[simp] theorem Bn.mapBoot_time (b : Bn) (f : Boot → Boot) : (b.mapBoot f).time = b.time := (rfl)
@[simp] theorem Bn.mapBoot_cyc (b : Bn) (f : Boot → Boot) : (b.mapBoot f).cyc = b.cyc := (rfl)
@[simp] theorem Bn.mapBoot_gal (b : Bn) (f : Boot → Boot) : (b.mapBoot f).gal = b.gal := (rfl)
@[simp] theorem Bn.mapBoot_arr (b : Bn) (f : Boot → Boot) : (b.mapBoot f).arr = b.arr := (rfl)
@[simp] theorem Bn.mapBoot_loader (b : Bn) (f : Boot → Boot) : (b.mapBoot f).loader = b.loader := (rfl)
@[simp] theorem Bn.mapBoot_acq (b : Bn) (f : Boot → Boot) : (b.mapBoot f).acq = b.acq := (rfl)
@[simp] theorem Bn.mapBoot_anchors (b : Bn) (f : Boot → Boot) : (b.mapBoot f).anchors = b.anchors := (rfl)
@[simp] theorem Bn.mapBoot_sheets (b : Bn) (f : Boot → Boot) : (b.mapBoot f).sheets = b.sheets := (rfl)
@[simp] theorem Bn.mapBoot_lease (b : Bn) (f : Boot → Boot) : (b.mapBoot f).lease = b.lease := (rfl)
@[simp] theorem Bn.mapBoot_xl (b : Bn) (f : Boot → Boot) : (b.mapBoot f).xl = b.xl := (rfl)
@[simp] theorem Bn.mapBoot_lig (b : Bn) (f : Boot → Boot) : (b.mapBoot f).lig = b.lig := (rfl)
@[simp] theorem Bn.mapBoot_stats (b : Bn) (f : Boot → Boot) : (b.mapBoot f).stats = b.stats := (rfl)
@[simp] theorem Bn.mapBoot_hkc (b : Bn) (f : Boot → Boot) : (b.mapBoot f).hkc = b.hkc := (rfl)
@[simp] theorem Bn.mapBoot_therm (b : Bn) (f : Boot → Boot) : (b.mapBoot f).therm = b.therm := (rfl)
@[simp] theorem Bn.mapBoot_fst (b : Bn) (f : Boot → Boot) : (b.mapBoot f).fst = b.fst := (rfl)
@[simp] theorem Bn.mapBoot_tap (b : Bn) (f : Boot → Boot) : (b.mapBoot f).tap = b.tap := (rfl)
@[simp] theorem Bn.mapBoot_boot (b : Bn) (f : Boot → Boot) : (b.mapBoot f).boot = f b.boot := (rfl)
@[simp] theorem Bn.mapSess_unit (b : Bn) (f : Session → Session) : (b.mapSess f).unit = b.unit := (rfl)
@[simp] theorem Bn.mapSess_last (b : Bn) (f : Session → Session) : (b.mapSess f).last = b.last := (rfl)
@[simp] theorem Bn.mapSess_regs (b : Bn) (f : Session → Session) : (b.mapSess f).regs = b.regs := (rfl)
@[simp] theorem Bn.mapSess_openPkt (b : Bn) (f : Session → Session) : (b.mapSess f).openPkt = b.openPkt := (rfl)
@[simp] theorem Bn.mapSess_arrived (b : Bn) (f : Session → Session) : (b.mapSess f).arrived = b.arrived := (rfl)
@[simp] theorem Bn.mapSess_waiting (b : Bn) (f : Session → Session) : (b.mapSess f).waiting = b.waiting := (rfl)
@[simp] theorem Bn.mapSess_job (b : Bn) (f : Session → Session) : (b.mapSess f).job = b.job := (rfl)
@[simp] theorem Bn.mapSess_replies (b : Bn) (f : Session → Session) : (b.mapSess f).replies = b.replies := (rfl)
@[simp] theorem Bn.mapSess_ctl (b : Bn) (f : Session → Session) : (b.mapSess f).ctl = b.ctl := (rfl)
@[simp] theorem Bn.mapSess_marksIn (b : Bn) (f : Session → Session) : (b.mapSess f).marksIn = b.marksIn := (rfl)
@[simp] theorem Bn.mapSess_marksOut (b : Bn) (f : Session → Session) : (b.mapSess f).marksOut = b.marksOut := (rfl)
@[simp] theorem Bn.mapSess_marksSent (b : Bn) (f : Session → Session) : (b.mapSess f).marksSent = b.marksSent := (rfl)
@[simp] theorem Bn.mapSess_reqs (b : Bn) (f : Session → Session) : (b.mapSess f).reqs = b.reqs := (rfl)
@[simp] theorem Bn.mapSess_epochSeen (b : Bn) (f : Session → Session) : (b.mapSess f).epochSeen = b.epochSeen := (rfl)
@[simp] theorem Bn.mapSess_nextTag (b : Bn) (f : Session → Session) : (b.mapSess f).nextTag = b.nextTag := (rfl)
@[simp] theorem Bn.mapSess_patches (b : Bn) (f : Session → Session) : (b.mapSess f).patches = b.patches := (rfl)
@[simp] theorem Bn.mapSess_saved (b : Bn) (f : Session → Session) : (b.mapSess f).saved = b.saved := (rfl)
@[simp] theorem Bn.mapSess_stage (b : Bn) (f : Session → Session) : (b.mapSess f).stage = b.stage := (rfl)
@[simp] theorem Bn.mapSess_power (b : Bn) (f : Session → Session) : (b.mapSess f).power = b.power := (rfl)
@[simp] theorem Bn.mapSess_boot (b : Bn) (f : Session → Session) : (b.mapSess f).boot = b.boot := (rfl)
@[simp] theorem Bn.mapSess_pantry (b : Bn) (f : Session → Session) : (b.mapSess f).pantry = b.pantry := (rfl)
@[simp] theorem Bn.mapSess_lanes (b : Bn) (f : Session → Session) : (b.mapSess f).lanes = b.lanes := (rfl)
@[simp] theorem Bn.mapSess_time (b : Bn) (f : Session → Session) : (b.mapSess f).time = b.time := (rfl)
@[simp] theorem Bn.mapSess_cyc (b : Bn) (f : Session → Session) : (b.mapSess f).cyc = b.cyc := (rfl)
@[simp] theorem Bn.mapSess_gal (b : Bn) (f : Session → Session) : (b.mapSess f).gal = b.gal := (rfl)
@[simp] theorem Bn.mapSess_arr (b : Bn) (f : Session → Session) : (b.mapSess f).arr = b.arr := (rfl)
@[simp] theorem Bn.mapSess_loader (b : Bn) (f : Session → Session) : (b.mapSess f).loader = b.loader := (rfl)
@[simp] theorem Bn.mapSess_acq (b : Bn) (f : Session → Session) : (b.mapSess f).acq = b.acq := (rfl)
@[simp] theorem Bn.mapSess_anchors (b : Bn) (f : Session → Session) : (b.mapSess f).anchors = b.anchors := (rfl)
@[simp] theorem Bn.mapSess_sheets (b : Bn) (f : Session → Session) : (b.mapSess f).sheets = b.sheets := (rfl)
@[simp] theorem Bn.mapSess_lease (b : Bn) (f : Session → Session) : (b.mapSess f).lease = b.lease := (rfl)
@[simp] theorem Bn.mapSess_xl (b : Bn) (f : Session → Session) : (b.mapSess f).xl = b.xl := (rfl)
@[simp] theorem Bn.mapSess_lig (b : Bn) (f : Session → Session) : (b.mapSess f).lig = b.lig := (rfl)
@[simp] theorem Bn.mapSess_stats (b : Bn) (f : Session → Session) : (b.mapSess f).stats = b.stats := (rfl)
@[simp] theorem Bn.mapSess_hkc (b : Bn) (f : Session → Session) : (b.mapSess f).hkc = b.hkc := (rfl)
@[simp] theorem Bn.mapSess_therm (b : Bn) (f : Session → Session) : (b.mapSess f).therm = b.therm := (rfl)
@[simp] theorem Bn.mapSess_fst (b : Bn) (f : Session → Session) : (b.mapSess f).fst = b.fst := (rfl)
@[simp] theorem Bn.mapSess_tap (b : Bn) (f : Session → Session) : (b.mapSess f).tap = b.tap := (rfl)
@[simp] theorem Bn.mapSess_sess (b : Bn) (f : Session → Session) : (b.mapSess f).sess = f b.sess := (rfl)
@[simp] theorem Bn.mapHkc_unit (b : Bn) (f : Hkc → Hkc) : (b.mapHkc f).unit = b.unit := (rfl)
@[simp] theorem Bn.mapHkc_last (b : Bn) (f : Hkc → Hkc) : (b.mapHkc f).last = b.last := (rfl)
@[simp] theorem Bn.mapHkc_regs (b : Bn) (f : Hkc → Hkc) : (b.mapHkc f).regs = b.regs := (rfl)
@[simp] theorem Bn.mapHkc_openPkt (b : Bn) (f : Hkc → Hkc) : (b.mapHkc f).openPkt = b.openPkt := (rfl)
@[simp] theorem Bn.mapHkc_arrived (b : Bn) (f : Hkc → Hkc) : (b.mapHkc f).arrived = b.arrived := (rfl)
@[simp] theorem Bn.mapHkc_waiting (b : Bn) (f : Hkc → Hkc) : (b.mapHkc f).waiting = b.waiting := (rfl)
@[simp] theorem Bn.mapHkc_job (b : Bn) (f : Hkc → Hkc) : (b.mapHkc f).job = b.job := (rfl)
@[simp] theorem Bn.mapHkc_replies (b : Bn) (f : Hkc → Hkc) : (b.mapHkc f).replies = b.replies := (rfl)
@[simp] theorem Bn.mapHkc_ctl (b : Bn) (f : Hkc → Hkc) : (b.mapHkc f).ctl = b.ctl := (rfl)
@[simp] theorem Bn.mapHkc_marksIn (b : Bn) (f : Hkc → Hkc) : (b.mapHkc f).marksIn = b.marksIn := (rfl)
@[simp] theorem Bn.mapHkc_marksOut (b : Bn) (f : Hkc → Hkc) : (b.mapHkc f).marksOut = b.marksOut := (rfl)
@[simp] theorem Bn.mapHkc_marksSent (b : Bn) (f : Hkc → Hkc) : (b.mapHkc f).marksSent = b.marksSent := (rfl)
@[simp] theorem Bn.mapHkc_reqs (b : Bn) (f : Hkc → Hkc) : (b.mapHkc f).reqs = b.reqs := (rfl)
@[simp] theorem Bn.mapHkc_epochSeen (b : Bn) (f : Hkc → Hkc) : (b.mapHkc f).epochSeen = b.epochSeen := (rfl)
@[simp] theorem Bn.mapHkc_nextTag (b : Bn) (f : Hkc → Hkc) : (b.mapHkc f).nextTag = b.nextTag := (rfl)
@[simp] theorem Bn.mapHkc_sess (b : Bn) (f : Hkc → Hkc) : (b.mapHkc f).sess = b.sess := (rfl)
@[simp] theorem Bn.mapHkc_patches (b : Bn) (f : Hkc → Hkc) : (b.mapHkc f).patches = b.patches := (rfl)
@[simp] theorem Bn.mapHkc_saved (b : Bn) (f : Hkc → Hkc) : (b.mapHkc f).saved = b.saved := (rfl)
@[simp] theorem Bn.mapHkc_stage (b : Bn) (f : Hkc → Hkc) : (b.mapHkc f).stage = b.stage := (rfl)
@[simp] theorem Bn.mapHkc_power (b : Bn) (f : Hkc → Hkc) : (b.mapHkc f).power = b.power := (rfl)
@[simp] theorem Bn.mapHkc_boot (b : Bn) (f : Hkc → Hkc) : (b.mapHkc f).boot = b.boot := (rfl)
@[simp] theorem Bn.mapHkc_pantry (b : Bn) (f : Hkc → Hkc) : (b.mapHkc f).pantry = b.pantry := (rfl)
@[simp] theorem Bn.mapHkc_lanes (b : Bn) (f : Hkc → Hkc) : (b.mapHkc f).lanes = b.lanes := (rfl)
@[simp] theorem Bn.mapHkc_time (b : Bn) (f : Hkc → Hkc) : (b.mapHkc f).time = b.time := (rfl)
@[simp] theorem Bn.mapHkc_cyc (b : Bn) (f : Hkc → Hkc) : (b.mapHkc f).cyc = b.cyc := (rfl)
@[simp] theorem Bn.mapHkc_gal (b : Bn) (f : Hkc → Hkc) : (b.mapHkc f).gal = b.gal := (rfl)
@[simp] theorem Bn.mapHkc_arr (b : Bn) (f : Hkc → Hkc) : (b.mapHkc f).arr = b.arr := (rfl)
@[simp] theorem Bn.mapHkc_loader (b : Bn) (f : Hkc → Hkc) : (b.mapHkc f).loader = b.loader := (rfl)
@[simp] theorem Bn.mapHkc_acq (b : Bn) (f : Hkc → Hkc) : (b.mapHkc f).acq = b.acq := (rfl)
@[simp] theorem Bn.mapHkc_anchors (b : Bn) (f : Hkc → Hkc) : (b.mapHkc f).anchors = b.anchors := (rfl)
@[simp] theorem Bn.mapHkc_sheets (b : Bn) (f : Hkc → Hkc) : (b.mapHkc f).sheets = b.sheets := (rfl)
@[simp] theorem Bn.mapHkc_lease (b : Bn) (f : Hkc → Hkc) : (b.mapHkc f).lease = b.lease := (rfl)
@[simp] theorem Bn.mapHkc_xl (b : Bn) (f : Hkc → Hkc) : (b.mapHkc f).xl = b.xl := (rfl)
@[simp] theorem Bn.mapHkc_lig (b : Bn) (f : Hkc → Hkc) : (b.mapHkc f).lig = b.lig := (rfl)
@[simp] theorem Bn.mapHkc_stats (b : Bn) (f : Hkc → Hkc) : (b.mapHkc f).stats = b.stats := (rfl)
@[simp] theorem Bn.mapHkc_therm (b : Bn) (f : Hkc → Hkc) : (b.mapHkc f).therm = b.therm := (rfl)
@[simp] theorem Bn.mapHkc_fst (b : Bn) (f : Hkc → Hkc) : (b.mapHkc f).fst = b.fst := (rfl)
@[simp] theorem Bn.mapHkc_tap (b : Bn) (f : Hkc → Hkc) : (b.mapHkc f).tap = b.tap := (rfl)
@[simp] theorem Bn.mapHkc_hkc (b : Bn) (f : Hkc → Hkc) : (b.mapHkc f).hkc = f b.hkc := (rfl)
@[simp] theorem Bn.mapTherm_unit (b : Bn) (f : ThermSt → ThermSt) : (b.mapTherm f).unit = b.unit := (rfl)
@[simp] theorem Bn.mapTherm_last (b : Bn) (f : ThermSt → ThermSt) : (b.mapTherm f).last = b.last := (rfl)
@[simp] theorem Bn.mapTherm_regs (b : Bn) (f : ThermSt → ThermSt) : (b.mapTherm f).regs = b.regs := (rfl)
@[simp] theorem Bn.mapTherm_openPkt (b : Bn) (f : ThermSt → ThermSt) : (b.mapTherm f).openPkt = b.openPkt := (rfl)
@[simp] theorem Bn.mapTherm_arrived (b : Bn) (f : ThermSt → ThermSt) : (b.mapTherm f).arrived = b.arrived := (rfl)
@[simp] theorem Bn.mapTherm_waiting (b : Bn) (f : ThermSt → ThermSt) : (b.mapTherm f).waiting = b.waiting := (rfl)
@[simp] theorem Bn.mapTherm_job (b : Bn) (f : ThermSt → ThermSt) : (b.mapTherm f).job = b.job := (rfl)
@[simp] theorem Bn.mapTherm_replies (b : Bn) (f : ThermSt → ThermSt) : (b.mapTherm f).replies = b.replies := (rfl)
@[simp] theorem Bn.mapTherm_ctl (b : Bn) (f : ThermSt → ThermSt) : (b.mapTherm f).ctl = b.ctl := (rfl)
@[simp] theorem Bn.mapTherm_marksIn (b : Bn) (f : ThermSt → ThermSt) : (b.mapTherm f).marksIn = b.marksIn := (rfl)
@[simp] theorem Bn.mapTherm_marksOut (b : Bn) (f : ThermSt → ThermSt) : (b.mapTherm f).marksOut = b.marksOut := (rfl)
@[simp] theorem Bn.mapTherm_marksSent (b : Bn) (f : ThermSt → ThermSt) : (b.mapTherm f).marksSent = b.marksSent := (rfl)
@[simp] theorem Bn.mapTherm_reqs (b : Bn) (f : ThermSt → ThermSt) : (b.mapTherm f).reqs = b.reqs := (rfl)
@[simp] theorem Bn.mapTherm_epochSeen (b : Bn) (f : ThermSt → ThermSt) : (b.mapTherm f).epochSeen = b.epochSeen := (rfl)
@[simp] theorem Bn.mapTherm_nextTag (b : Bn) (f : ThermSt → ThermSt) : (b.mapTherm f).nextTag = b.nextTag := (rfl)
@[simp] theorem Bn.mapTherm_sess (b : Bn) (f : ThermSt → ThermSt) : (b.mapTherm f).sess = b.sess := (rfl)
@[simp] theorem Bn.mapTherm_patches (b : Bn) (f : ThermSt → ThermSt) : (b.mapTherm f).patches = b.patches := (rfl)
@[simp] theorem Bn.mapTherm_saved (b : Bn) (f : ThermSt → ThermSt) : (b.mapTherm f).saved = b.saved := (rfl)
@[simp] theorem Bn.mapTherm_stage (b : Bn) (f : ThermSt → ThermSt) : (b.mapTherm f).stage = b.stage := (rfl)
@[simp] theorem Bn.mapTherm_power (b : Bn) (f : ThermSt → ThermSt) : (b.mapTherm f).power = b.power := (rfl)
@[simp] theorem Bn.mapTherm_boot (b : Bn) (f : ThermSt → ThermSt) : (b.mapTherm f).boot = b.boot := (rfl)
@[simp] theorem Bn.mapTherm_pantry (b : Bn) (f : ThermSt → ThermSt) : (b.mapTherm f).pantry = b.pantry := (rfl)
@[simp] theorem Bn.mapTherm_lanes (b : Bn) (f : ThermSt → ThermSt) : (b.mapTherm f).lanes = b.lanes := (rfl)
@[simp] theorem Bn.mapTherm_time (b : Bn) (f : ThermSt → ThermSt) : (b.mapTherm f).time = b.time := (rfl)
@[simp] theorem Bn.mapTherm_cyc (b : Bn) (f : ThermSt → ThermSt) : (b.mapTherm f).cyc = b.cyc := (rfl)
@[simp] theorem Bn.mapTherm_gal (b : Bn) (f : ThermSt → ThermSt) : (b.mapTherm f).gal = b.gal := (rfl)
@[simp] theorem Bn.mapTherm_arr (b : Bn) (f : ThermSt → ThermSt) : (b.mapTherm f).arr = b.arr := (rfl)
@[simp] theorem Bn.mapTherm_loader (b : Bn) (f : ThermSt → ThermSt) : (b.mapTherm f).loader = b.loader := (rfl)
@[simp] theorem Bn.mapTherm_acq (b : Bn) (f : ThermSt → ThermSt) : (b.mapTherm f).acq = b.acq := (rfl)
@[simp] theorem Bn.mapTherm_anchors (b : Bn) (f : ThermSt → ThermSt) : (b.mapTherm f).anchors = b.anchors := (rfl)
@[simp] theorem Bn.mapTherm_sheets (b : Bn) (f : ThermSt → ThermSt) : (b.mapTherm f).sheets = b.sheets := (rfl)
@[simp] theorem Bn.mapTherm_lease (b : Bn) (f : ThermSt → ThermSt) : (b.mapTherm f).lease = b.lease := (rfl)
@[simp] theorem Bn.mapTherm_xl (b : Bn) (f : ThermSt → ThermSt) : (b.mapTherm f).xl = b.xl := (rfl)
@[simp] theorem Bn.mapTherm_lig (b : Bn) (f : ThermSt → ThermSt) : (b.mapTherm f).lig = b.lig := (rfl)
@[simp] theorem Bn.mapTherm_stats (b : Bn) (f : ThermSt → ThermSt) : (b.mapTherm f).stats = b.stats := (rfl)
@[simp] theorem Bn.mapTherm_hkc (b : Bn) (f : ThermSt → ThermSt) : (b.mapTherm f).hkc = b.hkc := (rfl)
@[simp] theorem Bn.mapTherm_fst (b : Bn) (f : ThermSt → ThermSt) : (b.mapTherm f).fst = b.fst := (rfl)
@[simp] theorem Bn.mapTherm_tap (b : Bn) (f : ThermSt → ThermSt) : (b.mapTherm f).tap = b.tap := (rfl)
@[simp] theorem Bn.mapTherm_therm (b : Bn) (f : ThermSt → ThermSt) : (b.mapTherm f).therm = f b.therm := (rfl)

/-! Reads of a BN die after an update. -/

theorem Bn.rd_wrN (b : Bn) (o n o' : Nat) : (b.wrN o n).rd o' = if o' = o then wof n else b.rd o' := Bn.rd_wr _ _ _ _
theorem Bn.rd_bumpN (b : Bn) (o k n o' : Nat) : (b.bumpN o k n).rd o' = if o' = o then satAdd (b.rd o) k n else b.rd o' :=
  Bn.rd_wr _ _ _ _
theorem Bn.rd_bump (b : Bn) (o o' : Nat) : (b.bump o).rd o' = if o' = o then satAdd (b.rd o) 1 20 else b.rd o' := Bn.rd_wr _ _ _ _
theorem Bn.rd_bit (b : Bn) (o i o' : Nat) (v : Bool) :
    (b.bit o i v).rd o' = if o' = o then setFld (b.rd o) i i (b2n v) else b.rd o' := Bn.rd_wr _ _ _ _

@[simp] theorem Bn.rd_setDom (b : Bn) (n : Nat) (x : Dom) (o' : Nat) : (b.setDom n x).rd o' = b.rd o' := (rfl)
@[simp] theorem Bn.rd_setLane (b : Bn) (l : Lane) (x : LaneSt) (o' : Nat) : (b.setLane l x).rd o' = b.rd o' := (rfl)
@[simp] theorem Bn.rd_setPw (b : Bn) (w : Nat) (v : Word) (o' : Nat) : (b.setPw w v).rd o' = b.rd o' := (rfl)
@[simp] theorem Bn.rd_mapTime (b : Bn) (f : Time → Time) (o' : Nat) : (b.mapTime f).rd o' = b.rd o' := (rfl)
@[simp] theorem Bn.rd_mapLease (b : Bn) (f : LeaseSt → LeaseSt) (o' : Nat) : (b.mapLease f).rd o' = b.rd o' := (rfl)
@[simp] theorem Bn.rd_mapPower (b : Bn) (f : Power → Power) (o' : Nat) : (b.mapPower f).rd o' = b.rd o' := (rfl)
@[simp] theorem Bn.rd_mapStage (b : Bn) (f : Stage → Stage) (o' : Nat) : (b.mapStage f).rd o' = b.rd o' := (rfl)
@[simp] theorem Bn.rd_mapAcq (b : Bn) (f : Acq → Acq) (o' : Nat) : (b.mapAcq f).rd o' = b.rd o' := (rfl)
@[simp] theorem Bn.rd_mapGal (b : Bn) (f : Galley → Galley) (o' : Nat) : (b.mapGal f).rd o' = b.rd o' := (rfl)
@[simp] theorem Bn.rd_mapArr (b : Bn) (f : Arr → Arr) (o' : Nat) : (b.mapArr f).rd o' = b.rd o' := (rfl)
@[simp] theorem Bn.rd_mapLoader (b : Bn) (f : Loader → Loader) (o' : Nat) : (b.mapLoader f).rd o' = b.rd o' := (rfl)
@[simp] theorem Bn.rd_mapBoot (b : Bn) (f : Boot → Boot) (o' : Nat) : (b.mapBoot f).rd o' = b.rd o' := (rfl)
@[simp] theorem Bn.rd_mapSess (b : Bn) (f : Session → Session) (o' : Nat) : (b.mapSess f).rd o' = b.rd o' := (rfl)
@[simp] theorem Bn.rd_mapHkc (b : Bn) (f : Hkc → Hkc) (o' : Nat) : (b.mapHkc f).rd o' = b.rd o' := (rfl)
@[simp] theorem Bn.rd_mapTherm (b : Bn) (f : ThermSt → ThermSt) (o' : Nat) : (b.mapTherm f).rd o' = b.rd o' := (rfl)

@[simp] theorem Bn.lane_setLane (b : Bn) (l : Lane) (x : LaneSt) : (b.setLane l x).lane l = x := by simp [Bn.lane, Bn.setLane]
@[simp] theorem Bn.setLane_setLane (b : Bn) (l : Lane) (x y : LaneSt) : (b.setLane l x).setLane l y = b.setLane l y := by
  simp [Bn.setLane]
@[simp] theorem Bn.setLane_lane (b : Bn) (l : Lane) : b.setLane l (b.lane l) = b := by simp [Bn.setLane, Bn.lane]
theorem Bn.lane_setLane_ne (b : Bn) {l k : Lane} (x : LaneSt) (h : k ≠ l) : (b.setLane l x).lane k = b.lane k := by
  have : l.val ≠ k.val := fun h' => h (Fin.ext h'.symm)
  simp [Bn.lane, Bn.setLane, this]
@[simp] theorem Bn.dom_setDom (b : Bn) (n : Nat) (x : Dom) : (b.setDom n x).dom n = x := by simp [Bn.dom, Bn.setDom]
theorem Bn.dom_setDom_ne (b : Bn) {n k : Nat} (x : Dom) (h : k ≠ n) : (b.setDom n x).dom k = b.dom k := by
  simp [Bn.dom, Bn.setDom, mget_mput_ne _ _ _ _ h]
@[simp] theorem Bn.pw_setPw (b : Bn) (w : Nat) (v : Word) : (b.setPw w v).pw w = v := by simp [Bn.pw, Bn.setPw]
theorem Bn.pw_setPw_ne (b : Bn) {w k : Nat} (v : Word) (h : k ≠ w) : (b.setPw w v).pw k = b.pw k := by
  simp [Bn.pw, Bn.setPw, mget_mput_ne _ _ _ _ h]
@[simp] theorem Bn.comp_setComp (b : Bn) (n : Nat) (c : Comp) : (b.setComp n c).comp n = c := by simp [Bn.comp, Bn.setComp, Bn.mapArr]
theorem Bn.comp_setComp_ne (b : Bn) {n k : Nat} (c : Comp) (h : k ≠ n) : (b.setComp n c).comp k = b.comp k := by
  simp [Bn.comp, Bn.setComp, Bn.mapArr, mget_mput_ne _ _ _ _ h]
@[simp] theorem Bn.queue_setQueue (b : Bn) (q : Nat) (x : Queue) : (b.setQueue q x).queue q = x := by
  simp [Bn.queue, Bn.setQueue, Bn.mapGal]
theorem Bn.queue_setQueue_ne (b : Bn) {q k : Nat} (x : Queue) (h : k ≠ q) : (b.setQueue q x).queue k = b.queue k := by
  simp [Bn.queue, Bn.setQueue, Bn.mapGal, mget_mput_ne _ _ _ _ h]
@[simp] theorem Bn.cell_setCell (b : Bn) (a : Nat) (c : Cell) : (b.setCell a c).cell a = c := by simp [Bn.cell, Bn.setCell, Bn.mapGal]
theorem Bn.cell_setCell_ne (b : Bn) {a k : Nat} (c : Cell) (h : k ≠ a) : (b.setCell a c).cell k = b.cell k := by
  simp [Bn.cell, Bn.setCell, Bn.mapGal, mget_mput_ne _ _ _ _ h]

/-! Domains stand in the power logic, pantry words in the pantry: the other fields there stay. -/

@[simp] theorem Bn.setDom_power_dev (b : Bn) (n : Nat) (x : Dom) : (b.setDom n x).power.dev = b.power.dev := (rfl)
@[simp] theorem Bn.setDom_power_runBefore (b : Bn) (n : Nat) (x : Dom) : (b.setDom n x).power.runBefore = b.power.runBefore := (rfl)
@[simp] theorem Bn.setDom_power_entry (b : Bn) (n : Nat) (x : Dom) : (b.setDom n x).power.entry = b.power.entry := (rfl)
@[simp] theorem Bn.setDom_power_holdEnd (b : Bn) (n : Nat) (x : Dom) : (b.setDom n x).power.holdEnd = b.power.holdEnd := (rfl)
@[simp] theorem Bn.setDom_power_wakeLatched (b : Bn) (n : Nat) (x : Dom) : (b.setDom n x).power.wakeLatched = b.power.wakeLatched := (rfl)
@[simp] theorem Bn.setDom_power_dozeD (b : Bn) (n : Nat) (x : Dom) : (b.setDom n x).power.dozeD = b.power.dozeD := (rfl)
@[simp] theorem Bn.setDom_power_dozeX (b : Bn) (n : Nat) (x : Dom) : (b.setDom n x).power.dozeX = b.power.dozeX := (rfl)
@[simp] theorem Bn.setDom_power_xoOk (b : Bn) (n : Nat) (x : Dom) : (b.setDom n x).power.xoOk = b.power.xoOk := (rfl)
@[simp] theorem Bn.setDom_power_pllLock (b : Bn) (n : Nat) (x : Dom) : (b.setDom n x).power.pllLock = b.power.pllLock := (rfl)
@[simp] theorem Bn.setDom_power_pllRef (b : Bn) (n : Nat) (x : Dom) : (b.setDom n x).power.pllRef = b.power.pllRef := (rfl)
@[simp] theorem Bn.setDom_power_clkWait (b : Bn) (n : Nat) (x : Dom) : (b.setDom n x).power.clkWait = b.power.clkWait := (rfl)
@[simp] theorem Bn.setDom_power_ctrlIn (b : Bn) (n : Nat) (x : Dom) : (b.setDom n x).power.ctrlIn = b.power.ctrlIn := (rfl)
@[simp] theorem Bn.setDom_power_clkLossOut (b : Bn) (n : Nat) (x : Dom) : (b.setDom n x).power.clkLossOut = b.power.clkLossOut := (rfl)
@[simp] theorem Bn.setDom_power_bursts (b : Bn) (n : Nat) (x : Dom) : (b.setDom n x).power.bursts = b.power.bursts := (rfl)
@[simp] theorem Bn.setDom_power_after (b : Bn) (n : Nat) (x : Dom) : (b.setDom n x).power.after = b.power.after := (rfl)
@[simp] theorem Bn.setPw_pantry_scrubNext (b : Bn) (w : Nat) (v : Word) : (b.setPw w v).pantry.scrubNext = b.pantry.scrubNext := (rfl)
@[simp] theorem Bn.setPw_pantry_sweepPos (b : Bn) (w : Nat) (v : Word) : (b.setPw w v).pantry.sweepPos = b.pantry.sweepPos := (rfl)
@[simp] theorem Bn.setPw_pantry_restore (b : Bn) (w : Nat) (v : Word) : (b.setPw w v).pantry.restore = b.pantry.restore := (rfl)
@[simp] theorem Bn.setPw_pantry_wasEmpty (b : Bn) (w : Nat) (v : Word) : (b.setPw w v).pantry.wasEmpty = b.pantry.wasEmpty := (rfl)
@[simp] theorem Bn.dom_wr (b : Bn) (o : Nat) (v : Word) (j : Nat) : (b.wr o v).dom j = b.dom j := (rfl)
@[simp] theorem Bn.pw_wr (b : Bn) (o : Nat) (v : Word) (j : Nat) : (b.wr o v).pw j = b.pw j := (rfl)
@[simp] theorem Bn.lane_wr (b : Bn) (o : Nat) (v : Word) (l : Lane) : (b.wr o v).lane l = b.lane l := (rfl)
@[simp] theorem Bn.queue_wr (b : Bn) (o : Nat) (v : Word) (q : Nat) : (b.wr o v).queue q = b.queue q := (rfl)
@[simp] theorem Bn.comp_wr (b : Bn) (o : Nat) (v : Word) (q : Nat) : (b.wr o v).comp q = b.comp q := (rfl)
@[simp] theorem Bn.dom_wrN (b : Bn) (o n : Nat) (j : Nat) : (b.wrN o n).dom j = b.dom j := (rfl)
@[simp] theorem Bn.pw_wrN (b : Bn) (o n : Nat) (j : Nat) : (b.wrN o n).pw j = b.pw j := (rfl)
@[simp] theorem Bn.lane_wrN (b : Bn) (o n : Nat) (l : Lane) : (b.wrN o n).lane l = b.lane l := (rfl)
@[simp] theorem Bn.queue_wrN (b : Bn) (o n : Nat) (q : Nat) : (b.wrN o n).queue q = b.queue q := (rfl)
@[simp] theorem Bn.comp_wrN (b : Bn) (o n : Nat) (q : Nat) : (b.wrN o n).comp q = b.comp q := (rfl)
@[simp] theorem Bn.dom_bumpN (b : Bn) (o k n : Nat) (j : Nat) : (b.bumpN o k n).dom j = b.dom j := (rfl)
@[simp] theorem Bn.pw_bumpN (b : Bn) (o k n : Nat) (j : Nat) : (b.bumpN o k n).pw j = b.pw j := (rfl)
@[simp] theorem Bn.lane_bumpN (b : Bn) (o k n : Nat) (l : Lane) : (b.bumpN o k n).lane l = b.lane l := (rfl)
@[simp] theorem Bn.queue_bumpN (b : Bn) (o k n : Nat) (q : Nat) : (b.bumpN o k n).queue q = b.queue q := (rfl)
@[simp] theorem Bn.comp_bumpN (b : Bn) (o k n : Nat) (q : Nat) : (b.bumpN o k n).comp q = b.comp q := (rfl)
@[simp] theorem Bn.dom_bump (b : Bn) (o : Nat) (j : Nat) : (b.bump o).dom j = b.dom j := (rfl)
@[simp] theorem Bn.pw_bump (b : Bn) (o : Nat) (j : Nat) : (b.bump o).pw j = b.pw j := (rfl)
@[simp] theorem Bn.lane_bump (b : Bn) (o : Nat) (l : Lane) : (b.bump o).lane l = b.lane l := (rfl)
@[simp] theorem Bn.queue_bump (b : Bn) (o : Nat) (q : Nat) : (b.bump o).queue q = b.queue q := (rfl)
@[simp] theorem Bn.comp_bump (b : Bn) (o : Nat) (q : Nat) : (b.bump o).comp q = b.comp q := (rfl)
@[simp] theorem Bn.dom_bit (b : Bn) (o i : Nat) (v : Bool) (j : Nat) : (b.bit o i v).dom j = b.dom j := (rfl)
@[simp] theorem Bn.pw_bit (b : Bn) (o i : Nat) (v : Bool) (j : Nat) : (b.bit o i v).pw j = b.pw j := (rfl)
@[simp] theorem Bn.lane_bit (b : Bn) (o i : Nat) (v : Bool) (l : Lane) : (b.bit o i v).lane l = b.lane l := (rfl)
@[simp] theorem Bn.queue_bit (b : Bn) (o i : Nat) (v : Bool) (q : Nat) : (b.bit o i v).queue q = b.queue q := (rfl)
@[simp] theorem Bn.comp_bit (b : Bn) (o i : Nat) (v : Bool) (q : Nat) : (b.bit o i v).comp q = b.comp q := (rfl)
@[simp] theorem Bn.pw_setDom (b : Bn) (n : Nat) (x : Dom) (j : Nat) : (b.setDom n x).pw j = b.pw j := (rfl)
@[simp] theorem Bn.lane_setDom (b : Bn) (n : Nat) (x : Dom) (l : Lane) : (b.setDom n x).lane l = b.lane l := (rfl)
@[simp] theorem Bn.dom_setPw (b : Bn) (w : Nat) (v : Word) (j : Nat) : (b.setPw w v).dom j = b.dom j := (rfl)
@[simp] theorem Bn.lane_setPw (b : Bn) (w : Nat) (v : Word) (l : Lane) : (b.setPw w v).lane l = b.lane l := (rfl)
@[simp] theorem Bn.dom_setLane (b : Bn) (l : Lane) (x : LaneSt) (j : Nat) : (b.setLane l x).dom j = b.dom j := (rfl)
@[simp] theorem Bn.pw_setLane (b : Bn) (l : Lane) (x : LaneSt) (j : Nat) : (b.setLane l x).pw j = b.pw j := (rfl)

end Sys2Proof.Machine
end

