-- ==== Sys2Proof/Laws/Boot.lean ====
section
/-! SUPPORT. What a boot leaves, whatever it finds: every reset of a BN die ends in BOOT, with the session at OPEN, no role,
acquisition idle, the key slots as they were (R542, R543). -/

namespace Sys2Proof.Machine

/-- What a boot settles at once: device state, session level, key slots, role, acquisition, straps. -/
def Bn.bootKey (b : Bn) := (b.power.dev, b.sess.level, b.sess.slotsA, b.sess.slotsB, b.lease.role, b.acq.phase, b.boot.straps)
theorem Bn.bootKey_foldl {α} (l : List α) (f : Bn → α → Bn) (hf : ∀ b a, Bn.bootKey (f b a) = Bn.bootKey b) (b : Bn) : Bn.bootKey (l.foldl f b) = Bn.bootKey b := by
  induction l generalizing b with
  | nil => rfl
  | cons a t ih => simp [ih, hf]
@[simp] theorem Bn.bootKey_bump (b : Bn) (o) : Bn.bootKey (b.bump o) = Bn.bootKey b := by simp [Bn.bootKey]
@[simp] theorem Bn.bootKey_bumpN (b : Bn) (o k n) : Bn.bootKey (b.bumpN o k n) = Bn.bootKey b := by simp [Bn.bootKey]
@[simp] theorem Bn.bootKey_wr (b : Bn) (o v) : Bn.bootKey (b.wr o v) = Bn.bootKey b := by simp [Bn.bootKey]
@[simp] theorem Bn.bootKey_bit (b : Bn) (o k n) : Bn.bootKey (b.bit o k n) = Bn.bootKey b := by simp [Bn.bootKey]
@[simp] theorem Bn.bootKey_setPw (b : Bn) (o v) : Bn.bootKey (b.setPw o v) = Bn.bootKey b := by simp [Bn.bootKey]
@[simp] theorem Bn.bootKey_setDom (b : Bn) (o v) : Bn.bootKey (b.setDom o v) = Bn.bootKey b := by simp [Bn.bootKey, Bn.setDom]
@[simp] theorem Bn.bootKey_setRec (b : Bn) (o v) : Bn.bootKey (b.setRec o v) = Bn.bootKey b := by simp [Bn.bootKey, Bn.setRec]
@[simp] theorem Bn.bootKey_syncRec (b : Bn) : Bn.bootKey (b.syncRec) = Bn.bootKey b := by simp only [Bn.syncRec, Bn.bootKey_setRec]
theorem Bn.bootKey_mapBoot (b : Bn) (f) (h : ∀ x, (f x).straps = x.straps) : Bn.bootKey (b.mapBoot f) = Bn.bootKey b := by simp [Bn.bootKey, Bn.mapBoot, h]
theorem Bn.bootKey_mapPower (b : Bn) (f) (h : ∀ x, (f x).dev = x.dev) : Bn.bootKey (b.mapPower f) = Bn.bootKey b := by simp [Bn.bootKey, Bn.mapPower, h]
@[simp] theorem Bn.bootKey_stepTo (b : Bn) (k) : Bn.bootKey (b.stepTo k) = Bn.bootKey b := by simp only [Bn.stepTo, Bn.bootKey_syncRec, Bn.bootKey_mapBoot, implies_true]
@[simp] theorem Bn.bootKey_domUp (b : Bn) (k) : Bn.bootKey (b.domUp k) = Bn.bootKey b := by unfold Bn.domUp; split <;> simp only [Bn.bootKey_setDom]
theorem Bn.bootKey_emptyPantry (b : Bn) (v) : Bn.bootKey (b.emptyPantry v) = Bn.bootKey b := by simp only [Bn.bootKey, Bn.emptyPantry]
theorem Bn.bootKey_mapSess (b : Bn) (f) (h1 : ∀ s, (f s).level = s.level) (h2 : ∀ s, (f s).slotsA = s.slotsA) (h3 : ∀ s, (f s).slotsB = s.slotsB) : Bn.bootKey (b.mapSess f) = Bn.bootKey b := by simp [Bn.bootKey, Bn.mapSess, *]
theorem Bn.bootKey_words (v : Variant) (b : Bn) (c : Nat) : Bn.bootKey ((List.range 4).foldl (fun b i => b.setPw (4 * c + i) (pantryReset v (4 * c + i))) b) = Bn.bootKey b :=
  Bn.bootKey_foldl _ _ (fun _ _ => Bn.bootKey_setPw ..) b
@[simp] theorem Bn.bootKey_pantryLost (b : Bn) (v c) : Bn.bootKey (b.pantryLost v c) = Bn.bootKey b := by
  simp only [Bn.pantryLost, Bn.bootKey_bump, Bn.bootKey_bit]
  split
  · rw [Bn.bootKey_mapSess, Bn.bootKey_setPw, Bn.bootKey_words] <;> intros <;> rfl
  · rw [Bn.bootKey_words]
theorem Bn.bootKey_pantry (b : Bn) (p) : Bn.bootKey { b with pantry := p } = Bn.bootKey b := by simp only [Bn.bootKey]
theorem Bn.bootKey_time (b : Bn) (p) : Bn.bootKey { b with time := p } = Bn.bootKey b := by simp only [Bn.bootKey]
@[simp] theorem Bn.bootKey_pantryFound (b : Bn) (v c o) : Bn.bootKey (b.pantryFound v c o) = Bn.bootKey b := by
  cases o <;> simp only [Bn.pantryFound, Bn.bootKey_pantryLost, Bn.bootKey_bump, Bn.bootKey_pantry]
@[simp] theorem Bn.bootKey_pantryRead (b : Bn) (v c) : Bn.bootKey (b.pantryRead v c) = Bn.bootKey b := by rw [Bn.pantryRead, Bn.bootKey_pantryFound]
@[simp] theorem Bn.bootKey_pantryCheck (b : Bn) (v) : Bn.bootKey (b.pantryCheck v) = Bn.bootKey b := by
  simp only [Bn.pantryCheck]
  have : ∀ l : List Nat, Bn.bootKey (l.foldl (fun b c => b.pantryRead v c) b) = Bn.bootKey b := fun l => Bn.bootKey_foldl l _ (fun _ _ => Bn.bootKey_pantryRead ..) b
  split <;> simp only [Bn.bootKey_emptyPantry, this]
theorem Bn.bootKey_rr (b : Bn) (l : List Nat) : Bn.bootKey (l.foldl (fun b off =>
    match pantryBn off, rowOf bnMap off with
    | some w, some r => b.wr off (merge (bnDef off) (b.pw w) r.ao)
    | _, _ => b) b) = Bn.bootKey b := by
  apply Bn.bootKey_foldl; intro b a; split <;> simp only [Bn.bootKey_wr]
@[simp] theorem Bn.bootKey_restore (b : Bn) : Bn.bootKey (b.restoreRetained) = Bn.bootKey b := by
  rw [Bn.restoreRetained, Bn.bootKey_time]; exact Bn.bootKey_rr ..
theorem Bn.bootKey_clrRec (b : Bn) : Bn.bootKey ((List.range 32).foldl (fun b k => b.setRec k 0) b) = Bn.bootKey b := Bn.bootKey_foldl _ _ (fun _ _ => Bn.bootKey_setRec ..) b
@[simp] theorem Bn.bootKey_openRecord (b : Bn) (v) : Bn.bootKey (b.openRecord v) = Bn.bootKey b := by
  simp only [Bn.openRecord, Bn.bootKey_syncRec, Bn.bootKey_setRec, Bn.bootKey_clrRec, Bn.bootKey_setPw]
@[simp] theorem Bn.bootKey_decided (b : Bn) (o n) : Bn.bootKey (b.decided o n) = Bn.bootKey b := by
  simp only [Bn.decided]; split; rfl; split <;> simp only [Bn.bootKey_setRec, Bn.bootKey_syncRec, Bn.bootKey_mapBoot, implies_true]
@[simp] theorem Bn.bootKey_countFail (b : Bn) : Bn.bootKey (b.countFail) = Bn.bootKey b := by simp only [Bn.countFail, Bn.bootKey_setPw]
@[simp] theorem Bn.bootKey_therm (b : Bn) (c) : Bn.bootKey (b.thermCause c).1 = Bn.bootKey b := by
  unfold Bn.thermCause; split
  · simp only [Bn.bootKey_mapBoot, implies_true]
  · rfl
theorem Bn.bootKey_cleared (b : Bn) (st n) : Bn.bootKey (b.cleared st n) = (.boot, .open, b.sess.slotsA, b.sess.slotsB, .none, .idle, st) := by
  simp only [Bn.bootKey, Bn.cleared, Bn.wr, Bn.dark, LeaseSt.none, Acq.idle]
theorem Bn.bootKey_step4W (b : Bn) (f) : Bn.bootKey (b.step4With f).1 = Bn.bootKey b := by simp only [Bn.step4With, Bn.bootKey_setRec, Bn.bootKey_wr]
@[simp] theorem Bn.bootKey_step4 (b : Bn) : Bn.bootKey (b.step4).1 = Bn.bootKey b := by rw [Bn.step4, Bn.bootKey_step4W]

/-- The key of a die that boots with these straps. -/
def Bn.bootKeyOf (b : Bn) (st : Straps) := ((DevState.boot, Level.open, b.sess.slotsA, b.sess.slotsB, Role.none, AcqPhase.idle, st) : _ × _ × _ × _ × _ × _ × _)
theorem Bn.bootKey_domUps (b : Bn) (l : List Nat) : Bn.bootKey (l.foldl Bn.domUp b) = Bn.bootKey b := Bn.bootKey_foldl _ _ (fun _ _ => Bn.bootKey_domUp ..) b

theorem Bn.bootKey_step2 (b : Bn) (v c) : Bn.bootKey (b.bootStep2 v c) = Bn.bootKey b := by
  have h : ∀ x : Nat × Bn, Bn.bootKey ((((x.2.mapBoot (fun y => { y with step := 2, cause := x.1 })).openRecord v).restoreRetained.domUp 169)) = Bn.bootKey x.2 := by
    intro x; rw [Bn.bootKey_domUp, Bn.bootKey_restore, Bn.bootKey_openRecord]; simp only [Bn.bootKey_mapBoot, implies_true]
  have h2 := Bn.bootKey_therm (b.pantryCheck v) c
  rw [Bn.bootKey_pantryCheck] at h2
  simp only [Bn.bootStep2]
  generalize (b.pantryCheck v).thermCause c = r at h2
  split
  · simp only [Bn.bootKey_syncRec, Bn.bootKey_mapBoot, implies_true]
    rw [← h2]; exact h (r.2, r.1)
  · rw [← h2]; exact h (r.2, r.1)
theorem Bn.bootKey_step3 (b : Bn) : Bn.bootKey b.bootStep3 = Bn.bootKey b := by
  rw [Bn.bootStep3, Bn.bootKey_domUps]; simp only [Bn.bootKey_stepTo, Bn.bootKey_bumpN, Bn.bootKey_mapPower, implies_true]
theorem Bn.bootKey_step5 (b : Bn) : Bn.bootKey b.bootStep5 = Bn.bootKey b := by rw [Bn.bootStep5, Bn.bootKey_domUp, Bn.bootKey_stepTo]
theorem Bn.bootKey_after4 (b : Bn) (o again) (hb : Bn.bootKey b = Bn.bootKeyOf b b.boot.straps) (ha : ∀ x, Bn.bootKey x = Bn.bootKeyOf x x.boot.straps → Bn.bootKey (again x) = Bn.bootKey x) :
    Bn.bootKey (b.bootAfter4 o again) = Bn.bootKey b := by
  unfold Bn.bootAfter4
  split
  · split
    · rw [Bn.bootKey_step5]
    · have e6 : ∀ c, Bn.bootKey ((b.decided c 0).countFail) = Bn.bootKey b := by simp only [Bn.bootKey_countFail, Bn.bootKey_decided, implies_true]
      rename_i code _
      have e6 := e6 code
      have e := Bn.bootKey_cleared ((b.decided code 0).countFail) b.boot.straps 1
      generalize ((b.decided code 0).countFail) = b7 at e e6
      rw [ha]
      · rw [e]
        simp [Bn.bootKey, Bn.bootKeyOf] at hb e6 ⊢
        simp [*]
      · rw [e]
        simp [Bn.bootKeyOf, Bn.cleared, Bn.dark]
  · rw [Bn.bootKey_step5]
theorem Bn.bootKey_try (b : Bn) (v c again) (hb : Bn.bootKey b = Bn.bootKeyOf b b.boot.straps) (ha : ∀ x, Bn.bootKey x = Bn.bootKeyOf x x.boot.straps → Bn.bootKey (again x) = Bn.bootKey x) :
    Bn.bootKey (b.bootTry v c again) = Bn.bootKey b := by
  unfold Bn.bootTry
  split
  · simp only [Bn.bootKey_mapBoot, implies_true]
  · have h4 := Bn.bootKey_step4 (b.bootStep2 v c).bootStep3
    rw [Bn.bootKey_step3, Bn.bootKey_step2] at h4
    generalize (b.bootStep2 v c).bootStep3.step4 = q at h4
    simp only []
    rw [Bn.bootKey_after4, h4]
    · rw [h4, hb]; simp only [Bn.bootKey, Bn.bootKeyOf] at h4 ⊢; simp at h4; simp [*]
    · exact ha
theorem Bn.bootKey_bootRun (v) (k) : ∀ (b : Bn) (cause), Bn.bootKey b = Bn.bootKeyOf b b.boot.straps → Bn.bootKey (b.bootRun v cause k) = Bn.bootKey b := by
  induction k with
  | zero => intros; rw [Bn.bootRun]
  | succ k ih =>
    intro b c h
    rw [Bn.bootRun, Bn.bootKey_try _ _ _ _ h]
    intro x hx; exact ih x 5 hx

theorem Bn.bootKey_bootFrom (b : Bn) (v st c) : Bn.bootKey (b.bootFrom v st c) = Bn.bootKeyOf b st := by
  unfold Bn.bootFrom
  rw [Bn.bootKey_bootRun, Bn.bootKey_cleared]; rfl
  rw [Bn.bootKey_cleared]; rfl

end Sys2Proof.Machine
end

