-- ==== Sys2Proof/Laws/Galley.lean ====
section
/-! SUPPORT. What the galley operations, replies and control-path marks leave alone: of a BN die they change its words, its galley, the
held replies, the marks counted and what waits for them, and the status of the last access. `Bn.bare` is the die without these. -/

namespace Sys2Proof.Machine

/-- The die without its words, its galley, and what a reply moves. -/
def Bn.bare (b : Bn) : Bn :=
  { b with regs := [], gal := .empty, replies := [], marksIn := 0, last := .ok, power := { b.power with after := [] } }

theorem Bn.bare_last (b : Bn) (x : Status) : Bn.bare { b with last := x } = b.bare := (rfl)
theorem Bn.bare_replies (b : Bn) (x : List (List Word × Bool)) : Bn.bare { b with replies := x } = b.bare := (rfl)
theorem Bn.bare_marksIn (b : Bn) (x : Nat) : Bn.bare { b with marksIn := x } = b.bare := (rfl)
@[simp] theorem Bn.bare_wr (b : Bn) (o : Nat) (v : Word) : (b.wr o v).bare = b.bare := (rfl)
@[simp] theorem Bn.bare_wrN (b : Bn) (o n : Nat) : (b.wrN o n).bare = b.bare := (rfl)
@[simp] theorem Bn.bare_bumpN (b : Bn) (o k n : Nat) : (b.bumpN o k n).bare = b.bare := (rfl)
@[simp] theorem Bn.bare_bump (b : Bn) (o : Nat) : (b.bump o).bare = b.bare := (rfl)
@[simp] theorem Bn.bare_bit (b : Bn) (o i : Nat) (v : Bool) : (b.bit o i v).bare = b.bare := (rfl)
@[simp] theorem Bn.bare_mapGal (b : Bn) (f : Galley → Galley) : (b.mapGal f).bare = b.bare := (rfl)
@[simp] theorem Bn.bare_setQueue (b : Bn) (q : Nat) (x : Queue) : (b.setQueue q x).bare = b.bare := (rfl)
@[simp] theorem Bn.bare_setCell (b : Bn) (a : Nat) (c : Cell) : (b.setCell a c).bare = b.bare := (rfl)
@[simp] theorem Bn.bare_release (b : Bn) (a : Nat) : (b.release a).bare = b.bare := (rfl)

theorem Bn.bare_foldl {α : Type} (l : List α) (f : Bn → α → Bn) (h : ∀ b a, (f b a).bare = b.bare) (b : Bn) :
    (l.foldl f b).bare = b.bare := by
  induction l generalizing b with
  | nil => rfl
  | cons a t ih => rw [List.foldl_cons, ih, h]

@[simp] theorem Bn.bare_qCount (b : Bn) (q hi lo : Nat) : (b.qCount q hi lo).bare = b.bare := by simp only [Bn.qCount, Bn.bare_wr]
@[simp] theorem Bn.bare_refuse (b : Bn) (q : Nat) : (b.refuse q).bare = b.bare := by simp only [Bn.refuse, Bn.bare_qCount]
@[simp] theorem Bn.bare_outcome (b : Bn) (o : Outcome4) (k c : Nat) : (b.outcome o k c).bare = b.bare := by
  cases o
  · rw [Bn.outcome]
  · rw [Bn.outcome, Bn.bare_bump]
  · rw [Bn.outcome, Bn.bare_bit, Bn.bare_wrN, Bn.bare_bump]
  · rw [Bn.outcome, Bn.bare_bit, Bn.bare_wrN, Bn.bare_bump]
@[simp] theorem Bn.bare_followLink (b : Bn) (c : Nat) : (b.followLink c).1.bare = b.bare := by
  simp only [Bn.followLink, Bn.bare_outcome]
@[simp] theorem Bn.bare_leak (b : Bn) (k : Nat) : (b.leak k).bare = b.bare := by simp only [Bn.leak, Bn.bare_mapGal, Bn.bare_bump]
@[simp] theorem Bn.bare_alloc (b : Bn) : b.alloc.1.bare = b.bare := by
  unfold Bn.alloc
  split
  · rename_i h t _
    have hc : (if t.isEmpty = true then (b, true) else b.followLink h).1.bare = b.bare := by
      split
      · rfl
      · exact Bn.bare_followLink ..
    generalize (if t.isEmpty = true then (b, true) else b.followLink h) = c at hc
    obtain ⟨c, ok⟩ := c
    simp only at hc ⊢
    split
    · rw [Bn.bare_mapGal, hc]
    · rw [Bn.bare_mapGal, Bn.bare_leak, hc]
  · split
    · rw [Bn.bare_mapGal]
    · rfl
@[simp] theorem Bn.bare_marks (b : Bn) (q : Nat) : (b.marks q).bare = b.bare := by
  simp only [Bn.marks]
  split
  · simp only [Bn.bare_qCount, Bn.bare_setQueue]
  · split <;> simp only [Bn.bare_setQueue]
@[simp] theorem Bn.bare_append (b : Bn) (q : Nat) (d : Dbl) (fin : Bool) (vis : Nat) : (b.append q d fin vis).bare = b.bare := by
  have h := Bn.bare_alloc b
  unfold Bn.append
  extract_lets x len close item last
  generalize b.alloc = r at h ⊢
  obtain ⟨c, o⟩ := r
  dsimp only at h
  clear_value last
  cases last with
  | some l =>
    dsimp only
    split
    · rw [Bn.bare_setCell, Bn.bare_setQueue]
    · cases o <;> dsimp only
      · exact h
      · rw [Bn.bare_marks, Bn.bare_setCell, Bn.bare_setQueue, h]
  | none =>
    cases o <;> dsimp only
    · exact h
    · rw [Bn.bare_marks, Bn.bare_setCell, Bn.bare_setQueue, h]
@[simp] theorem Bn.bare_qWrite (b : Bn) (q : Nat) (d : Dbl) (fin svc : Bool) (vis : Nat) :
    (b.qWrite q d fin svc vis).1.bare = b.bare := by
  unfold Bn.qWrite
  extract_lets x setMode
  have hm (c : Bn) (m : ItemMode) : (setMode c m).bare = c.bare := Bn.bare_setQueue ..
  have hf (m : ItemMode) : (if fin = true then setMode b m else b).bare = b.bare := by
    split
    · exact hm ..
    · rfl
  split
  · exact Bn.bare_refuse ..
  · split
    · rw [Bn.bare_qCount, hf]
    · rw [Bn.bare_refuse, hf]
    · rw [Bn.bare_refuse, hf]
    · split
      · split
        · rw [Bn.bare_bit, Bn.bare_refuse, hm]
        · split
          · have h1 : ∀ m, ((((setMode b m).refuse q).bit (qStat q) 16 true).bit 0x2C01 16 true).bare = b.bare := by
              intro m; rw [Bn.bare_bit, Bn.bare_bit, Bn.bare_refuse, hm]
            dsimp only
            split
            · exact (Bn.bare_mapGal _ _).trans (h1 _)
            · exact h1 _
          · exact Bn.bare_append ..
      · exact Bn.bare_append ..
@[simp] theorem Bn.bare_flushQueue (b : Bn) (q : Nat) : (b.flushQueue q).bare = b.bare := by
  simp only [Bn.flushQueue, Bn.bare_setQueue]
  exact Bn.bare_foldl _ _ (fun _ _ => Bn.bare_release ..) b
@[simp] theorem Bn.bare_consume (b : Bn) (q : Nat) : (b.consume q).bare = b.bare := by
  unfold Bn.consume
  extract_lets x
  split
  · rfl
  · rename_i c rest _
    split
    · have hc : (if rest.isEmpty = true then (b, true) else b.followLink c.addr).1.bare = b.bare := by
        split
        · rfl
        · exact Bn.bare_followLink ..
      generalize (if rest.isEmpty = true then (b, true) else b.followLink c.addr) = r at hc
      obtain ⟨r, ok⟩ := r
      simp only at hc ⊢
      split
      · rw [Bn.bare_marks, Bn.bare_setQueue, Bn.bare_release, hc]
      · rw [Bn.bare_bit, Bn.bare_leak, Bn.bare_setQueue, Bn.bare_release, hc]
    · exact Bn.bare_setQueue ..
@[simp] theorem Bn.bare_discardItem (b : Bn) (q c k : Nat) : (b.discardItem q c k).bare = b.bare := by
  induction k generalizing b with
  | zero => rw [Bn.discardItem]
  | succ k ih =>
    rw [Bn.discardItem]
    split
    · simp only [Bn.bare_setQueue]
    · simp only []
      split
      · simp only [Bn.bare_setQueue, Bn.bare_consume]
      · rw [ih, Bn.bare_consume]
@[simp] theorem Bn.bare_qRead (b : Bn) (q c : Nat) : (b.qRead q c).1.bare = b.bare := by
  unfold Bn.qRead
  have h0 : (if (b.queue q).skip then b.discardItem q c 17 else b).bare = b.bare := by
    split
    · exact Bn.bare_discardItem ..
    · rfl
  generalize (if (b.queue q).skip = true then b.discardItem q c 17 else b) = b1 at h0
  dsimp only
  split
  · rw [Bn.bare_setQueue, h0]
  · split
    · exact h0
    · generalize b1.readHalf _ _ = r
      obtain ⟨o, d⟩ := r
      cases o <;> dsimp only <;> try split
      all_goals simp only [Bn.bare_consume, Bn.bare_outcome, Bn.bare_discardItem, h0]
theorem Bn.bare_qItem {b b1 : Bn} {q : Nat} {ds : List Dbl} (h : b.qItem q ds = some b1) : b1.bare = b.bare := by
  simp only [Bn.qItem] at h
  split at h
  · injection h with h
    rw [← h]
    exact Bn.bare_foldl _ _ (fun _ _ => Bn.bare_qWrite ..) b
  · cases h
@[simp] theorem Bn.bare_pumpReplies (b : Bn) (k : Nat) : (b.pumpReplies k).bare = b.bare := by
  induction k generalizing b with
  | zero => rw [Bn.pumpReplies]
  | succ k ih =>
    rw [Bn.pumpReplies]
    split
    · rfl
    · split
      · rfl
      · rename_i h
        rw [ih, ← Bn.bare_qItem h]
        rfl
@[simp] theorem Bn.bare_replyW (b : Bn) (tag op : Nat) (st : Status) (d : List Word) (w : Bool) :
    (b.replyW tag op st d w).bare = b.bare := by rw [Bn.replyW, Bn.bare_pumpReplies]; rfl
@[simp] theorem Bn.bare_reply (b : Bn) (tag op : Nat) (st : Status) (d : List Word) : (b.reply tag op st d).bare = b.bare := by
  rw [Bn.reply, Bn.bare_replyW]
@[simp] theorem Bn.bare_ctlMark (b : Bn) (ws : List Word) : (b.ctlMark ws).bare = b.bare := by
  unfold Bn.ctlMark
  split
  · rename_i h
    rw [← Bn.bare_qItem h]; rfl
  · rw [Bn.bare_refuse]

/-! The fields that a bare equality carries over. -/

theorem Bn.unit_of_bare {b c : Bn} (h : c.bare = b.bare) : c.unit = b.unit :=
  (congrArg (fun x : Bn => x.unit) h : c.bare.unit = b.bare.unit)
theorem Bn.openPkt_of_bare {b c : Bn} (h : c.bare = b.bare) : c.openPkt = b.openPkt :=
  (congrArg (fun x : Bn => x.openPkt) h : c.bare.openPkt = b.bare.openPkt)
theorem Bn.arrived_of_bare {b c : Bn} (h : c.bare = b.bare) : c.arrived = b.arrived :=
  (congrArg (fun x : Bn => x.arrived) h : c.bare.arrived = b.bare.arrived)
theorem Bn.waiting_of_bare {b c : Bn} (h : c.bare = b.bare) : c.waiting = b.waiting :=
  (congrArg (fun x : Bn => x.waiting) h : c.bare.waiting = b.bare.waiting)
theorem Bn.job_of_bare {b c : Bn} (h : c.bare = b.bare) : c.job = b.job :=
  (congrArg (fun x : Bn => x.job) h : c.bare.job = b.bare.job)
theorem Bn.ctl_of_bare {b c : Bn} (h : c.bare = b.bare) : c.ctl = b.ctl :=
  (congrArg (fun x : Bn => x.ctl) h : c.bare.ctl = b.bare.ctl)
theorem Bn.marksOut_of_bare {b c : Bn} (h : c.bare = b.bare) : c.marksOut = b.marksOut :=
  (congrArg (fun x : Bn => x.marksOut) h : c.bare.marksOut = b.bare.marksOut)
theorem Bn.marksSent_of_bare {b c : Bn} (h : c.bare = b.bare) : c.marksSent = b.marksSent :=
  (congrArg (fun x : Bn => x.marksSent) h : c.bare.marksSent = b.bare.marksSent)
theorem Bn.reqs_of_bare {b c : Bn} (h : c.bare = b.bare) : c.reqs = b.reqs :=
  (congrArg (fun x : Bn => x.reqs) h : c.bare.reqs = b.bare.reqs)
theorem Bn.epochSeen_of_bare {b c : Bn} (h : c.bare = b.bare) : c.epochSeen = b.epochSeen :=
  (congrArg (fun x : Bn => x.epochSeen) h : c.bare.epochSeen = b.bare.epochSeen)
theorem Bn.nextTag_of_bare {b c : Bn} (h : c.bare = b.bare) : c.nextTag = b.nextTag :=
  (congrArg (fun x : Bn => x.nextTag) h : c.bare.nextTag = b.bare.nextTag)
theorem Bn.sess_of_bare {b c : Bn} (h : c.bare = b.bare) : c.sess = b.sess :=
  (congrArg (fun x : Bn => x.sess) h : c.bare.sess = b.bare.sess)
theorem Bn.patches_of_bare {b c : Bn} (h : c.bare = b.bare) : c.patches = b.patches :=
  (congrArg (fun x : Bn => x.patches) h : c.bare.patches = b.bare.patches)
theorem Bn.saved_of_bare {b c : Bn} (h : c.bare = b.bare) : c.saved = b.saved :=
  (congrArg (fun x : Bn => x.saved) h : c.bare.saved = b.bare.saved)
theorem Bn.stage_of_bare {b c : Bn} (h : c.bare = b.bare) : c.stage = b.stage :=
  (congrArg (fun x : Bn => x.stage) h : c.bare.stage = b.bare.stage)
theorem Bn.boot_of_bare {b c : Bn} (h : c.bare = b.bare) : c.boot = b.boot :=
  (congrArg (fun x : Bn => x.boot) h : c.bare.boot = b.bare.boot)
theorem Bn.pantry_of_bare {b c : Bn} (h : c.bare = b.bare) : c.pantry = b.pantry :=
  (congrArg (fun x : Bn => x.pantry) h : c.bare.pantry = b.bare.pantry)
theorem Bn.lanes_of_bare {b c : Bn} (h : c.bare = b.bare) : c.lanes = b.lanes :=
  (congrArg (fun x : Bn => x.lanes) h : c.bare.lanes = b.bare.lanes)
theorem Bn.time_of_bare {b c : Bn} (h : c.bare = b.bare) : c.time = b.time :=
  (congrArg (fun x : Bn => x.time) h : c.bare.time = b.bare.time)
theorem Bn.cyc_of_bare {b c : Bn} (h : c.bare = b.bare) : c.cyc = b.cyc :=
  (congrArg (fun x : Bn => x.cyc) h : c.bare.cyc = b.bare.cyc)
theorem Bn.arr_of_bare {b c : Bn} (h : c.bare = b.bare) : c.arr = b.arr :=
  (congrArg (fun x : Bn => x.arr) h : c.bare.arr = b.bare.arr)
theorem Bn.loader_of_bare {b c : Bn} (h : c.bare = b.bare) : c.loader = b.loader :=
  (congrArg (fun x : Bn => x.loader) h : c.bare.loader = b.bare.loader)
theorem Bn.acq_of_bare {b c : Bn} (h : c.bare = b.bare) : c.acq = b.acq :=
  (congrArg (fun x : Bn => x.acq) h : c.bare.acq = b.bare.acq)
theorem Bn.anchors_of_bare {b c : Bn} (h : c.bare = b.bare) : c.anchors = b.anchors :=
  (congrArg (fun x : Bn => x.anchors) h : c.bare.anchors = b.bare.anchors)
theorem Bn.sheets_of_bare {b c : Bn} (h : c.bare = b.bare) : c.sheets = b.sheets :=
  (congrArg (fun x : Bn => x.sheets) h : c.bare.sheets = b.bare.sheets)
theorem Bn.lease_of_bare {b c : Bn} (h : c.bare = b.bare) : c.lease = b.lease :=
  (congrArg (fun x : Bn => x.lease) h : c.bare.lease = b.bare.lease)
theorem Bn.xl_of_bare {b c : Bn} (h : c.bare = b.bare) : c.xl = b.xl :=
  (congrArg (fun x : Bn => x.xl) h : c.bare.xl = b.bare.xl)
theorem Bn.lig_of_bare {b c : Bn} (h : c.bare = b.bare) : c.lig = b.lig :=
  (congrArg (fun x : Bn => x.lig) h : c.bare.lig = b.bare.lig)
theorem Bn.stats_of_bare {b c : Bn} (h : c.bare = b.bare) : c.stats = b.stats :=
  (congrArg (fun x : Bn => x.stats) h : c.bare.stats = b.bare.stats)
theorem Bn.hkc_of_bare {b c : Bn} (h : c.bare = b.bare) : c.hkc = b.hkc :=
  (congrArg (fun x : Bn => x.hkc) h : c.bare.hkc = b.bare.hkc)
theorem Bn.therm_of_bare {b c : Bn} (h : c.bare = b.bare) : c.therm = b.therm :=
  (congrArg (fun x : Bn => x.therm) h : c.bare.therm = b.bare.therm)
theorem Bn.fst_of_bare {b c : Bn} (h : c.bare = b.bare) : c.fst = b.fst :=
  (congrArg (fun x : Bn => x.fst) h : c.bare.fst = b.bare.fst)
theorem Bn.tap_of_bare {b c : Bn} (h : c.bare = b.bare) : c.tap = b.tap :=
  (congrArg (fun x : Bn => x.tap) h : c.bare.tap = b.bare.tap)
theorem Bn.power_dev_of_bare {b c : Bn} (h : c.bare = b.bare) : c.power.dev = b.power.dev :=
  (congrArg (fun x : Bn => x.power.dev) h : c.bare.power.dev = b.bare.power.dev)
theorem Bn.power_runBefore_of_bare {b c : Bn} (h : c.bare = b.bare) : c.power.runBefore = b.power.runBefore :=
  (congrArg (fun x : Bn => x.power.runBefore) h : c.bare.power.runBefore = b.bare.power.runBefore)
theorem Bn.power_entry_of_bare {b c : Bn} (h : c.bare = b.bare) : c.power.entry = b.power.entry :=
  (congrArg (fun x : Bn => x.power.entry) h : c.bare.power.entry = b.bare.power.entry)
theorem Bn.power_holdEnd_of_bare {b c : Bn} (h : c.bare = b.bare) : c.power.holdEnd = b.power.holdEnd :=
  (congrArg (fun x : Bn => x.power.holdEnd) h : c.bare.power.holdEnd = b.bare.power.holdEnd)
theorem Bn.power_wakeLatched_of_bare {b c : Bn} (h : c.bare = b.bare) : c.power.wakeLatched = b.power.wakeLatched :=
  (congrArg (fun x : Bn => x.power.wakeLatched) h : c.bare.power.wakeLatched = b.bare.power.wakeLatched)
theorem Bn.power_dozeD_of_bare {b c : Bn} (h : c.bare = b.bare) : c.power.dozeD = b.power.dozeD :=
  (congrArg (fun x : Bn => x.power.dozeD) h : c.bare.power.dozeD = b.bare.power.dozeD)
theorem Bn.power_dozeX_of_bare {b c : Bn} (h : c.bare = b.bare) : c.power.dozeX = b.power.dozeX :=
  (congrArg (fun x : Bn => x.power.dozeX) h : c.bare.power.dozeX = b.bare.power.dozeX)
theorem Bn.power_doms_of_bare {b c : Bn} (h : c.bare = b.bare) : c.power.doms = b.power.doms :=
  (congrArg (fun x : Bn => x.power.doms) h : c.bare.power.doms = b.bare.power.doms)
theorem Bn.power_xoOk_of_bare {b c : Bn} (h : c.bare = b.bare) : c.power.xoOk = b.power.xoOk :=
  (congrArg (fun x : Bn => x.power.xoOk) h : c.bare.power.xoOk = b.bare.power.xoOk)
theorem Bn.power_pllLock_of_bare {b c : Bn} (h : c.bare = b.bare) : c.power.pllLock = b.power.pllLock :=
  (congrArg (fun x : Bn => x.power.pllLock) h : c.bare.power.pllLock = b.bare.power.pllLock)
theorem Bn.power_pllRef_of_bare {b c : Bn} (h : c.bare = b.bare) : c.power.pllRef = b.power.pllRef :=
  (congrArg (fun x : Bn => x.power.pllRef) h : c.bare.power.pllRef = b.bare.power.pllRef)
theorem Bn.power_clkWait_of_bare {b c : Bn} (h : c.bare = b.bare) : c.power.clkWait = b.power.clkWait :=
  (congrArg (fun x : Bn => x.power.clkWait) h : c.bare.power.clkWait = b.bare.power.clkWait)
theorem Bn.power_ctrlIn_of_bare {b c : Bn} (h : c.bare = b.bare) : c.power.ctrlIn = b.power.ctrlIn :=
  (congrArg (fun x : Bn => x.power.ctrlIn) h : c.bare.power.ctrlIn = b.bare.power.ctrlIn)
theorem Bn.power_clkLossOut_of_bare {b c : Bn} (h : c.bare = b.bare) : c.power.clkLossOut = b.power.clkLossOut :=
  (congrArg (fun x : Bn => x.power.clkLossOut) h : c.bare.power.clkLossOut = b.bare.power.clkLossOut)
theorem Bn.power_bursts_of_bare {b c : Bn} (h : c.bare = b.bare) : c.power.bursts = b.power.bursts :=
  (congrArg (fun x : Bn => x.power.bursts) h : c.bare.power.bursts = b.bare.power.bursts)

end Sys2Proof.Machine
end

