-- ==== Sys2Proof/Laws/Cross.lean ====
section
/-! SUPPORT. What a crossing boundary leaves alone (R152, R153): `Bn.still` is the die without what a boundary, the cross-link or a
change of role may move; device time is in it, and passes as `Time.pass` says. -/

namespace Sys2Proof.Machine

/-- The die without the parts that the cross-link and roles move. -/
def Bn.still (b : Bn) : Bn :=
  { b.bare with
    xl := .dead, lease := .none, cyc := 0, arr := .empty, acq := .idle, therm := .rest, anchors := ⟨[], [], none, none, none⟩
    sheets := ⟨[], none, [], none, false, false, [], none⟩, reqs := [], lanes := Vector.replicate 7 .rest, stage := .init }

/-- What is kept in `bare` is kept in `still`. -/
theorem Bn.still_of_bare {b c : Bn} (h : c.bare = b.bare) : c.still = b.still :=
  congrArg (fun x : Bn => { x with
    xl := .dead, lease := .none, cyc := 0, arr := .empty, acq := .idle, therm := .rest, anchors := ⟨[], [], none, none, none⟩
    sheets := ⟨[], none, [], none, false, false, [], none⟩, reqs := [], lanes := Vector.replicate 7 .rest, stage := .init }) h

theorem Bn.time_of_still {b c : Bn} (h : c.still = b.still) : c.time = b.time := (congrArg (·.time) h : c.still.time = b.still.time)
theorem Bn.dev_of_still {b c : Bn} (h : c.still = b.still) : c.power.dev = b.power.dev :=
  (congrArg (fun x : Bn => x.power.dev) h : c.still.power.dev = b.still.power.dev)
theorem Bn.unit_of_still {b c : Bn} (h : c.still = b.still) : c.unit = b.unit := (congrArg (·.unit) h : c.still.unit = b.still.unit)

theorem Bn.still_wr (b : Bn) (o : Nat) (v : Word) : (b.wr o v).still = b.still := (rfl)
theorem Bn.still_wrN (b : Bn) (o n : Nat) : (b.wrN o n).still = b.still := (rfl)
theorem Bn.still_bump (b : Bn) (o : Nat) : (b.bump o).still = b.still := (rfl)
theorem Bn.still_bit (b : Bn) (o i : Nat) (v : Bool) : (b.bit o i v).still = b.still := (rfl)
theorem Bn.still_xl (b : Bn) (x : XLink) : Bn.still { b with xl := x } = b.still := (rfl)
theorem Bn.still_lease (b : Bn) (x : LeaseSt) : Bn.still { b with lease := x } = b.still := (rfl)
theorem Bn.still_therm (b : Bn) (x : ThermSt) : Bn.still { b with therm := x } = b.still := (rfl)
theorem Bn.still_anchors (b : Bn) (x : Anchors) : Bn.still { b with anchors := x } = b.still := (rfl)
theorem Bn.still_after (b : Bn) (x : List (AfterReply × Option Nat)) :
    Bn.still { b with power := { b.power with after := x } } = b.still := (rfl)
theorem Bn.still_setLane (b : Bn) (l : Lane) (x : LaneSt) : (b.setLane l x).still = b.still := (rfl)
theorem Bn.still_mapLane (b : Bn) (l : Lane) (f : LaneSt → LaneSt) : (b.mapLane l f).still = b.still := (rfl)
theorem Bn.still_abortJoin (b : Bn) : b.abortJoin.still = b.still := (rfl)
theorem Bn.still_roleNext (b : Bn) (r : Role) : (b.roleNext r).still = b.still := (rfl)
theorem Bn.still_ask (b : Bn) (d : Die) (op off : Nat) (w : Word) (o : ReqOwner) : (b.ask d op off w o).still = b.still := (rfl)

theorem Bn.still_foldl {α : Type} (l : List α) (f : Bn → α → Bn) (h : ∀ b a, (f b a).still = b.still) (b : Bn) :
    (l.foldl f b).still = b.still := by
  induction l generalizing b with
  | nil => rfl
  | cons a t ih => rw [List.foldl_cons, ih, h]

theorem Bn.still_clearSafe (b : Bn) (dies : List Die) : (b.clearSafe dies).still = b.still :=
  Bn.still_foldl _ _ (fun _ _ => Bn.still_ask ..) b

theorem Bn.still_ctlMark (b : Bn) (ws : List Word) : (b.ctlMark ws).still = b.still := Bn.still_of_bare (Bn.bare_ctlMark ..)

theorem Bn.still_scaleOut (b : Bn) : b.scaleOut.still = b.still := by
  unfold Bn.scaleOut; split
  · rw [Bn.still_wrN]
  · rfl

theorem Bn.still_takeMsg (b : Bn) : b.takeMsg.1.still = b.still := by
  unfold Bn.takeMsg
  extract_lets ready
  split <;> exact Bn.still_xl ..

theorem Bn.still_frameOut (b : Bn) : b.frameOut.1.still = b.still := by
  have h := Bn.still_takeMsg b
  unfold Bn.frameOut
  generalize b.takeMsg = r at h ⊢
  obtain ⟨c, m⟩ := r
  exact h

theorem Bn.still_takeover (b : Bn) (dies : List Die) : (b.takeover dies).still = b.still := by
  unfold Bn.takeover
  extract_lets
  rw [Bn.still_clearSafe, Bn.still_wrN, Bn.still_wr, Bn.still_wr, Bn.setTx, Bn.still_wr, Bn.still_wr]
  rfl

theorem Bn.still_enterRole (b : Bn) (r : Role) (dies : List Die) : (b.enterRole r dies).still = b.still := by
  have h1 : (if b.lease.role = .cold ∧ b.lease.join.code = 2 then b.abortJoin else b).still = b.still := by
    split
    · exact Bn.still_abortJoin ..
    · rfl
  unfold Bn.enterRole
  generalize (if b.lease.role = .cold ∧ b.lease.join.code = 2 then b.abortJoin else b) = b1 at h1 ⊢
  cases r
  · exact (Bn.still_takeover _ dies).trans h1
  all_goals exact h1

theorem Bn.still_roleBoundary (b : Bn) (dies : List Die) : (b.roleBoundary dies).still = b.still := by
  unfold Bn.roleBoundary
  split
  · split
    · rw [Bn.still_enterRole, Bn.still_lease]
    · rfl
  · rfl

theorem Bn.still_diverge (b : Bn) : b.diverge.still = b.still := by
  unfold Bn.diverge
  extract_lets b1
  split
  · rw [Bn.still_roleNext]; rfl
  · rfl

theorem Bn.still_divergeCheck (b : Bn) : b.divergeCheck.still = b.still := by
  unfold Bn.divergeCheck
  split
  · rfl
  · extract_lets
    split
    · rfl
    · split
      · rw [Bn.still_diverge]
      · rfl

theorem Bn.still_alertSync (b : Bn) (e : Nat) : (b.alertSync e).still = b.still := by
  unfold Bn.alertSync
  extract_lets w b1
  split
  · rfl
  · rw [Bn.still_ctlMark]; rfl

theorem Bn.still_control (b : Bn) (code x arg : Nat) : (b.control code x arg).still = b.still := by
  unfold Bn.control
  extract_lets j
  split
  · split <;> rfl
  · split
    · rfl
    · split
      · exact Bn.still_abortJoin ..
      · rfl
  · split <;> rfl
  · split <;> rfl
  · split
    · split <;> rfl
    · rfl
  · split
    · split <;> rfl
    · rfl
  · split
    · rfl
    · split
      · rfl
      · rw [Bn.still_alertSync]; rfl
  · rfl

theorem Bn.still_bringHead (b : Bn) (f : Nat) :
    (if b.lease.role = .quiet ∧ frRole f = 0 then
      b.roleNext (if b.xl.down = false ∧ b.lease.gaveUp = false then .shadow else .cold) else b).still = b.still := by
  split
  · exact Bn.still_roleNext ..
  · rfl

theorem Bn.still_bring (b : Bn) (f : Nat) : (b.bring f).still = b.still := by
  have h1 := Bn.still_bringHead b f
  unfold Bn.bring
  generalize (if b.lease.role = .quiet ∧ frRole f = 0 then
      b.roleNext (if b.xl.down = false ∧ b.lease.gaveUp = false then .shadow else .cold) else b) = b1 at h1 ⊢
  have h2 : (if b1.lease.join.code = 2 ∧ b1.lease.role = .cold ∧ frRole f ≠ 0 then b1.abortJoin else b1).still = b.still := by
    split
    · rw [Bn.still_abortJoin, h1]
    · exact h1
  dsimp only
  generalize (if b1.lease.join.code = 2 ∧ b1.lease.role = .cold ∧ frRole f ≠ 0 then b1.abortJoin else b1) = b2 at h2 ⊢
  split
  · split <;> exact h2
  · rw [Bn.still_control, h2]
  · exact h2
  · split <;> exact h2
  · exact h2

theorem Bn.still_lolUp (b : Bn) (l : Lane) : (b.lolUp l).still = b.still := by
  unfold Bn.lolUp; split
  · rfl
  · rw [Bn.still_bit, Bn.still_bump, Bn.still_mapLane]

theorem Bn.still_restartLane (b : Bn) (l : Lane) : (b.restartLane l).still = b.still := by
  unfold Bn.restartLane; split
  · rw [Bn.still_lolUp, Bn.still_mapLane]
  · split
    · rfl
    · rw [Bn.still_mapLane]

theorem Bn.still_restartLanes (b : Bn) : b.restartLanes.still = b.still := by
  unfold Bn.restartLanes
  apply Bn.still_foldl
  intro c a
  split
  · split
    · rw [Bn.still_restartLane]; rfl
    · rfl
  · rfl

theorem Bn.still_laneFollow (b : Bn) (sln2 : Bool) (l : Lane) : (b.laneFollow sln2 l).still = b.still := by
  unfold Bn.laneFollow
  extract_lets x ok
  split
  · split
    · rfl
    · exact Bn.still_setLane ..
  all_goals first | exact Bn.still_setLane .. | rfl

theorem Bn.still_lanesFollow (b : Bn) (sln2 : Bool) : (b.lanesFollow sln2).still = b.still :=
  Bn.still_foldl _ _ (fun _ _ => Bn.still_laneFollow ..) b

theorem Bn.still_xlBoundary (b : Bn) (sln2 : Bool) : (b.xlBoundary sln2).still = b.still := by
  unfold Bn.xlBoundary
  split
  · rfl
  · have h : (if b.xlSends = true then (let r := b.frameOut; (r.1, some r.2)) else (b, none)).1.still = b.still := by
      split
      · exact Bn.still_frameOut b
      · rfl
    generalize (if b.xlSends = true then (let r := b.frameOut; (r.1, some r.2)) else (b, none)) = r at h ⊢
    obtain ⟨c, o⟩ := r
    dsimp only at h ⊢
    rw [Bn.still_wrN, Bn.still_xl, h]

theorem Bn.still_tick (b : Bn) : b.tick.still = { b.still with time := b.time.pass } := (rfl)
theorem Bn.still_thermPass (b : Bn) : b.thermPass.still = b.still := (rfl)

theorem Bn.still_bringNow (b : Bn) (sln2 : Bool) : (b.bringNow sln2).still = b.still := by
  unfold Bn.bringNow
  split
  · split
    · exact Bn.still_bring ..
    · rfl
  · rfl

/-- A boundary: time passes as R153 and R156 say, and nothing else of `still` changes. -/
theorem Bn.still_advance (b : Bn) (v : Variant) (dies : List Die) :
    (b.advance v dies).still = { b.still with time := b.time.pass } := by
  have h1 := Bn.still_xlBoundary b (v == .sln2)
  rw [Bn.advance, Bn.pumpAll, Bn.still_of_bare (Bn.bare_pumpReplies ..), Bn.still_lanesFollow, Bn.still_restartLanes,
    Bn.still_divergeCheck, Bn.still_bringNow, Bn.still_roleBoundary, Bn.still_scaleOut, Bn.still_thermPass, Bn.still_tick, h1,
    Bn.time_of_still h1]

theorem Bn.still_time (b : Bn) : b.still.time = b.time := (rfl)
theorem Bn.still_dev (b : Bn) : b.still.power.dev = b.power.dev := (rfl)

theorem Bn.advance_time (b : Bn) (v : Variant) (dies : List Die) : (b.advance v dies).time = b.time.pass := by
  rw [← Bn.still_time (b.advance v dies), Bn.still_advance]
theorem Bn.advance_dev (b : Bn) (v : Variant) (dies : List Die) : (b.advance v dies).power.dev = b.power.dev := by
  rw [← Bn.still_dev (b.advance v dies), Bn.still_advance]
  exact Bn.still_dev b

end Sys2Proof.Machine
end

