-- ==== Sys2Proof/Laws/Dispatch.lean ====
section
/-! SUPPORT. Each command is its meaning: one equation per arm of `exec`. -/

namespace Sys2Proof.Machine

@[simp] theorem exec_powerUp (u : BnId) (st : Straps) (s : State) : exec (.powerUp u st) s = execPowerUp u st s := (rfl)
@[simp] theorem exec_downlinkLock (u : BnId) (s : State) : exec (.downlinkLock u) s = execDownlinkLock u s := (rfl)
@[simp] theorem exec_pllLock (u : BnId) (s : State) : exec (.pllLock u) s = execPllLock u s := (rfl)
@[simp] theorem exec_ligatureTraining (u : BnId) (d : Die) (ok : Bool) (s : State) :
    exec (.ligatureTraining u d ok) s = execLigatureTraining u d ok s := (rfl)
@[simp] theorem exec_domainWakeFailure (dom : DomRef) (w : WakeWait) (s : State) :
    exec (.domainWakeFailure dom w) s = execDomainWakeFailure dom w s := (rfl)
@[simp] theorem exec_bootDeadline (u : BnId) (s : State) : exec (.bootDeadline u) s = execBootDeadline u s := (rfl)
@[simp] theorem exec_watchdog (u : BnId) (s : State) : exec (.watchdog u) s = execWatchdog u s := (rfl)
@[simp] theorem exec_vaoRemoval (u : BnId) (s : State) : exec (.vaoRemoval u) s = execVaoRemoval u s := (rfl)
@[simp] theorem exec_pinReset (u : BnId) (st : Straps) (s : State) : exec (.pinReset u st) s = execPinReset u st s := (rfl)
@[simp] theorem exec_supplySupervisorReset (u : BnId) (s : State) :
    exec (.supplySupervisorReset u) s = execSupplySupervisorReset u s := (rfl)
@[simp] theorem exec_fvReset (d : Die) (powerUp : Bool) (s : State) : exec (.fvReset d powerUp) s = execFvReset d powerUp s := (rfl)
@[simp] theorem exec_fvSelfTest (d : Die) (s : State) : exec (.fvSelfTest d) s = execFvSelfTest d s := (rfl)
@[simp] theorem exec_fvRestore (u : BnId) (d : Die) (s : State) : exec (.fvRestore u d) s = execFvRestore u d s := (rfl)
@[simp] theorem exec_downlinkBlock (u : BnId) (h : SyncHdr) (payload : BitVec 64) (s : State) :
    exec (.downlinkBlock u h payload) s = execDownlinkBlock u h payload s := (rfl)
@[simp] theorem exec_downlinkLockLoss (u : BnId) (s : State) : exec (.downlinkLockLoss u) s = execDownlinkLockLoss u s := (rfl)
@[simp] theorem exec_downlinkRelock (u : BnId) (s : State) : exec (.downlinkRelock u) s = execDownlinkRelock u s := (rfl)
@[simp] theorem exec_trig (u : BnId) (arg : BitVec 8) (s : State) : exec (.trig u arg) s = execTrig u arg s := (rfl)
@[simp] theorem exec_xreset (u : BnId) (s : State) : exec (.xreset u) s = execXreset u s := (rfl)
@[simp] theorem exec_sync (u : BnId) (arg : BitVec 8) (s : State) : exec (.sync u arg) s = execSync u arg s := (rfl)
@[simp] theorem exec_lease (u : BnId) (arg : BitVec 8) (s : State) : exec (.lease u arg) s = execLease u arg s := (rfl)
@[simp] theorem exec_releaseAsk (u : BnId) (arg : BitVec 8) (s : State) : exec (.releaseAsk u arg) s = execReleaseAsk u arg s := (rfl)
@[simp] theorem exec_impressGo (u : BnId) (arg : BitVec 8) (s : State) : exec (.impressGo u arg) s = execImpressGo u arg s := (rfl)
@[simp] theorem exec_calpulse (u : BnId) (s : State) : exec (.calpulse u) s = execCalpulse u s := (rfl)
@[simp] theorem exec_ack (u : BnId) (arg : BitVec 8) (s : State) : exec (.ack u arg) s = execAck u arg s := (rfl)
@[simp] theorem exec_wakeHold (u : BnId) (s : State) : exec (.wakeHold u) s = execWakeHold u s := (rfl)
@[simp] theorem exec_wakeHoldEnd (u : BnId) (s : State) : exec (.wakeHoldEnd u) s = execWakeHoldEnd u s := (rfl)
@[simp] theorem exec_packetScreen (u : BnId) (s : State) : exec (.packetScreen u) s = execPacketScreen u s := (rfl)
@[simp] theorem exec_packetTimeout (u : BnId) (s : State) : exec (.packetTimeout u) s = execPacketTimeout u s := (rfl)
@[simp] theorem exec_nop (u : BnId) (tag : Tag) (s : State) : exec (.nop u tag) s = execNop u tag s := (rfl)
@[simp] theorem exec_echo (u : BnId) (tag : Tag) (ws : List Word) (s : State) : exec (.echo u tag ws) s = execEcho u tag ws s := (rfl)
@[simp] theorem exec_openSession (u : BnId) (tag : Tag) (d0 : Word) (key : List Word) (s : State) :
    exec (.openSession u tag d0 key) s = execOpenSession u tag d0 key s := (rfl)
@[simp] theorem exec_closeSession (u : BnId) (tag : Tag) (s : State) : exec (.closeSession u tag) s = execCloseSession u tag s := (rfl)
@[simp] theorem exec_read (u : BnId) (tag : Tag) (d0 : Word) (d1 : Word) (s : State) :
    exec (.read u tag d0 d1) s = execRead u tag d0 d1 s := (rfl)
@[simp] theorem exec_write (u : BnId) (tag : Tag) (d0 : Word) (vals : List Word) (s : State) :
    exec (.write u tag d0 vals) s = execWrite u tag d0 vals s := (rfl)
@[simp] theorem exec_stage (u : BnId) (tag : Tag) (d0 : Word) (vals : List Word) (s : State) :
    exec (.stage u tag d0 vals) s = execStage u tag d0 vals s := (rfl)
@[simp] theorem exec_proof (u : BnId) (tag : Tag) (d0 : Word) (s : State) : exec (.proof u tag d0) s = execProof u tag d0 s := (rfl)
@[simp] theorem exec_impress (u : BnId) (tag : Tag) (d0 : Word) (d1 : Word) (d2 : Word) (d3 : Word) (s : State) :
    exec (.impress u tag d0 d1 d2 d3) s = execImpress u tag d0 d1 d2 d3 s := (rfl)
@[simp] theorem exec_discard (u : BnId) (tag : Tag) (s : State) : exec (.discard u tag) s = execDiscard u tag s := (rfl)
@[simp] theorem exec_formeLoad (u : BnId) (tag : Tag) (d0 : Word) (ws : List Word) (s : State) :
    exec (.formeLoad u tag d0 ws) s = execFormeLoad u tag d0 ws s := (rfl)
@[simp] theorem exec_formeVerify (u : BnId) (tag : Tag) (s : State) : exec (.formeVerify u tag) s = execFormeVerify u tag s := (rfl)
@[simp] theorem exec_queueFlush (u : BnId) (tag : Tag) (d0 : Word) (d1 : Word) (d2 : Word) (d3 : Word) (s : State) :
    exec (.queueFlush u tag d0 d1 d2 d3) s = execQueueFlush u tag d0 d1 d2 d3 s := (rfl)
@[simp] theorem exec_scrub (u : BnId) (tag : Tag) (d0 : Word) (d1 : Word) (d2 : Word) (s : State) :
    exec (.scrub u tag d0 d1 d2) s = execScrub u tag d0 d1 d2 s := (rfl)
@[simp] theorem exec_scrubReport (u : BnId) (tag : Tag) (s : State) : exec (.scrubReport u tag) s = execScrubReport u tag s := (rfl)
@[simp] theorem exec_hkUrgent (u : BnId) (tag : Tag) (d0 : Word) (s : State) :
    exec (.hkUrgent u tag d0) s = execHkUrgent u tag d0 s := (rfl)
@[simp] theorem exec_statsStart (u : BnId) (tag : Tag) (d0 : Word) (s : State) :
    exec (.statsStart u tag d0) s = execStatsStart u tag d0 s := (rfl)
@[simp] theorem exec_statsRead (u : BnId) (tag : Tag) (d0 : Word) (s : State) :
    exec (.statsRead u tag d0) s = execStatsRead u tag d0 s := (rfl)
@[simp] theorem exec_tapSet (u : BnId) (tag : Tag) (d0 : Word) (s : State) : exec (.tapSet u tag d0) s = execTapSet u tag d0 s := (rfl)
@[simp] theorem exec_tapRead (u : BnId) (tag : Tag) (d0 : Word) (s : State) : exec (.tapRead u tag d0) s = execTapRead u tag d0 s := (rfl)
@[simp] theorem exec_timeStep (u : BnId) (tag : Tag) (d0 : Word) (d1 : Word) (d2 : Word) (d3 : Word) (d4 : Word) (d5 : Word) (d6 : Word) (s : State) :
    exec (.timeStep u tag d0 d1 d2 d3 d4 d5 d6) s = execTimeStep u tag d0 d1 d2 d3 d4 d5 d6 s := (rfl)
@[simp] theorem exec_timeRate (u : BnId) (tag : Tag) (d0 : Word) (d1 : Word) (d2 : Word) (d3 : Word) (d4 : Word) (s : State) :
    exec (.timeRate u tag d0 d1 d2 d3 d4) s = execTimeRate u tag d0 d1 d2 d3 d4 s := (rfl)
@[simp] theorem exec_timeRead (u : BnId) (tag : Tag) (s : State) : exec (.timeRead u tag) s = execTimeRead u tag s := (rfl)
@[simp] theorem exec_sleep (u : BnId) (tag : Tag) (s : State) : exec (.sleep u tag) s = execSleep u tag s := (rfl)
@[simp] theorem exec_doze (u : BnId) (tag : Tag) (s : State) : exec (.doze u tag) s = execDoze u tag s := (rfl)
@[simp] theorem exec_wake (u : BnId) (tag : Tag) (d0 : Word) (s : State) : exec (.wake u tag d0) s = execWake u tag d0 s := (rfl)
@[simp] theorem exec_resetBlockFv (u : BnId) (tag : Tag) (d : Die) (s : State) :
    exec (.resetBlockFv u tag d) s = execResetBlockFv u tag d s := (rfl)
@[simp] theorem exec_resetBlockBn (u : BnId) (tag : Tag) (toSeven : Bool) (blk : BitVec 8) (s : State) :
    exec (.resetBlockBn u tag toSeven blk) s = execResetBlockBn u tag toSeven blk s := (rfl)
@[simp] theorem exec_resetBlockHkc (u : BnId) (tag : Tag) (s : State) : exec (.resetBlockHkc u tag) s = execResetBlockHkc u tag s := (rfl)
@[simp] theorem exec_laneRestart (u : BnId) (tag : Tag) (l : Lane) (s : State) :
    exec (.laneRestart u tag l) s = execLaneRestart u tag l s := (rfl)
@[simp] theorem exec_selftestChecker (u : BnId) (tag : Tag) (reserved : Bool) (s : State) :
    exec (.selftestChecker u tag reserved) s = execSelftestChecker u tag reserved s := (rfl)
@[simp] theorem exec_selftestProbe (u : BnId) (tag : Tag) (s : State) : exec (.selftestProbe u tag) s = execSelftestProbe u tag s := (rfl)
@[simp] theorem exec_selftestGalley (u : BnId) (tag : Tag) (s : State) :
    exec (.selftestGalley u tag) s = execSelftestGalley u tag s := (rfl)
@[simp] theorem exec_bootInfo (u : BnId) (tag : Tag) (d0 : Word) (s : State) :
    exec (.bootInfo u tag d0) s = execBootInfo u tag d0 s := (rfl)
@[simp] theorem exec_bootClear (u : BnId) (tag : Tag) (s : State) : exec (.bootClear u tag) s = execBootClear u tag s := (rfl)
@[simp] theorem exec_leaseInfo (u : BnId) (tag : Tag) (d0 : Word) (s : State) :
    exec (.leaseInfo u tag d0) s = execLeaseInfo u tag d0 s := (rfl)
@[simp] theorem exec_enter (u : BnId) (tag : Tag) (code : BitVec 8) (s : State) :
    exec (.enter u tag code) s = execEnter u tag code s := (rfl)
@[simp] theorem exec_leave (u : BnId) (tag : Tag) (s : State) : exec (.leave u tag) s = execLeave u tag s := (rfl)
@[simp] theorem exec_stateSave (u : BnId) (tag : Tag) (d0 : Word) (s : State) :
    exec (.stateSave u tag d0) s = execStateSave u tag d0 s := (rfl)
@[simp] theorem exec_stateRestore (u : BnId) (tag : Tag) (d0 : Word) (ws : List Word) (s : State) :
    exec (.stateRestore u tag d0 ws) s = execStateRestore u tag d0 ws s := (rfl)
@[simp] theorem exec_keySet (u : BnId) (tag : Tag) (lvl : KeyLevel) (slot : Fin 8) (digest : List Word) (s : State) :
    exec (.keySet u tag lvl slot digest) s = execKeySet u tag lvl slot digest s := (rfl)
@[simp] theorem exec_revoke (u : BnId) (tag : Tag) (lvl : KeyLevel) (slot : Fin 8) (digest : List Word) (s : State) :
    exec (.revoke u tag lvl slot digest) s = execRevoke u tag lvl slot digest s := (rfl)
@[simp] theorem exec_patchLoad (u : BnId) (tag : Tag) (entry : Fin 64) (ws : List Word) (s : State) :
    exec (.patchLoad u tag entry ws) s = execPatchLoad u tag entry ws s := (rfl)
@[simp] theorem exec_patchClear (u : BnId) (tag : Tag) (entry : Fin 64) (ws : List Word) (s : State) :
    exec (.patchClear u tag entry ws) s = execPatchClear u tag entry ws s := (rfl)
@[simp] theorem exec_otpRead (u : BnId) (tag : Tag) (d0 : Word) (d1 : Word) (s : State) :
    exec (.otpRead u tag d0 d1) s = execOtpRead u tag d0 d1 s := (rfl)
@[simp] theorem exec_registerWrite (u : BnId) (staged : Bool) (addr : Word) (val : Word) (s : State) :
    exec (.registerWrite u staged addr val) s = execRegisterWrite u staged addr val s := (rfl)
@[simp] theorem exec_cntClear (t : CntTarget) (s : State) : exec (.cntClear t) s = execCntClear t s := (rfl)
@[simp] theorem exec_start (u : BnId) (s : State) : exec (.start u) s = execStart u s := (rfl)
@[simp] theorem exec_stop (u : BnId) (s : State) : exec (.stop u) s = execStop u s := (rfl)
@[simp] theorem exec_countRunStart (u : BnId) (d : Die) (sel : Bool) (len : BitVec 16) (s : State) :
    exec (.countRunStart u d sel len) s = execCountRunStart u d sel len s := (rfl)
@[simp] theorem exec_countRunStop (u : BnId) (d : Die) (sel : Bool) (len : BitVec 16) (s : State) :
    exec (.countRunStop u d sel len) s = execCountRunStop u d sel len s := (rfl)
@[simp] theorem exec_countWindowEnd (d : Die) (s : State) : exec (.countWindowEnd d) s = execCountWindowEnd d s := (rfl)
@[simp] theorem exec_snap (u : BnId) (load : Bool) (s : State) : exec (.snap u load) s = execSnap u load s := (rfl)
@[simp] theorem exec_exchangeEvaluation (u : BnId) (val : Word) (s : State) :
    exec (.exchangeEvaluation u val) s = execExchangeEvaluation u val s := (rfl)
@[simp] theorem exec_loadData (u : BnId) (val : Word) (s : State) : exec (.loadData u val) s = execLoadData u val s := (rfl)
@[simp] theorem exec_loadReset (u : BnId) (s : State) : exec (.loadReset u) s = execLoadReset u s := (rfl)
@[simp] theorem exec_fvImpressDiscard (u : BnId) (d : Die) (s : State) :
    exec (.fvImpressDiscard u d) s = execFvImpressDiscard u d s := (rfl)
@[simp] theorem exec_safeClear (u : BnId) (d : Die) (s : State) : exec (.safeClear u d) s = execSafeClear u d s := (rfl)
@[simp] theorem exec_clkSel (u : BnId) (src : BitVec 2) (s : State) : exec (.clkSel u src) s = execClkSel u src s := (rfl)
@[simp] theorem exec_calfailCntAutoInc (u : BnId) (d : Die) (s : State) :
    exec (.calfailCntAutoInc u d) s = execCalfailCntAutoInc u d s := (rfl)
@[simp] theorem exec_fdomReq (u : BnId) (d : Die) (dom : Fin 135) (req : Bool) (s : State) :
    exec (.fdomReq u d dom req) s = execFdomReq u d dom req s := (rfl)
@[simp] theorem exec_windowTableWrite (u : BnId) (staged : Bool) (idx : Fin 2048) (val : Word) (s : State) :
    exec (.windowTableWrite u staged idx val) s = execWindowTableWrite u staged idx val s := (rfl)
@[simp] theorem exec_hkStart (u : BnId) (s : State) : exec (.hkStart u) s = execHkStart u s := (rfl)
@[simp] theorem exec_hkRunStop (u : BnId) (s : State) : exec (.hkRunStop u) s = execHkRunStop u s := (rfl)
@[simp] theorem exec_genEn (u : BnId) (l : Lane) (val : Word) (s : State) : exec (.genEn u l val) s = execGenEn u l val s := (rfl)
@[simp] theorem exec_chkEn (u : BnId) (l : Lane) (val : Word) (s : State) : exec (.chkEn u l val) s = execChkEn u l val s := (rfl)
@[simp] theorem exec_prbsDurEnd (u : BnId) (l : Lane) (s : State) : exec (.prbsDurEnd u l) s = execPrbsDurEnd u l s := (rfl)
@[simp] theorem exec_checkerLock (u : BnId) (l : Lane) (mism : BitVec 64) (s : State) :
    exec (.checkerLock u l mism) s = execCheckerLock u l mism s := (rfl)
@[simp] theorem exec_injOne (u : BnId) (l : Lane) (both : Bool) (s : State) : exec (.injOne u l both) s = execInjOne u l both s := (rfl)
@[simp] theorem exec_injBurst (u : BnId) (l : Lane) (len : BitVec 8) (s : State) :
    exec (.injBurst u l len) s = execInjBurst u l len s := (rfl)
@[simp] theorem exec_leadingEdge (d : Die) (ch : Chan) (disc : Disc) (e : Edge) (nextXc : Bool) (k : Edge) (e1 : Latch) (e2 : Latch) (e3 : Latch) (s : State) :
    exec (.leadingEdge d ch disc e nextXc k e1 e2 e3) s = execLeadingEdge d ch disc e nextXc k e1 e2 e3 s := (rfl)
@[simp] theorem exec_trailingEdge (d : Die) (ch : Chan) (disc : Disc) (e : Edge) (t : Latch) (s : State) :
    exec (.trailingEdge d ch disc e t) s = execTrailingEdge d ch disc e t s := (rfl)
@[simp] theorem exec_ringOverflow (d : Die) (ch : Chan) (e : Edge) (s : State) :
    exec (.ringOverflow d ch e) s = execRingOverflow d ch e s := (rfl)
@[simp] theorem exec_saturation (d : Die) (ch : Chan) (e : Edge) (s : State) :
    exec (.saturation d ch e) s = execSaturation d ch e s := (rfl)
@[simp] theorem exec_take (d : Die) (t : Tray) (e : Edge) (s : State) : exec (.take d t e) s = execTake d t e s := (rfl)
@[simp] theorem exec_hitDelivery (d : Die) (t : Tray) (e : Edge) (s : State) :
    exec (.hitDelivery d t e) s = execHitDelivery d t e s := (rfl)
@[simp] theorem exec_reArm (d : Die) (ch : Chan) (e : Edge) (s : State) : exec (.reArm d ch e) s = execReArm d ch e s := (rfl)
@[simp] theorem exec_frameFill (d : Die) (s : State) : exec (.frameFill d) s = execFrameFill d s := (rfl)
@[simp] theorem exec_injectionPulse (d : Die) (s : State) : exec (.injectionPulse d) s = execInjectionPulse d s := (rfl)
@[simp] theorem exec_frameCheck (u : BnId) (d : Die) (pos : Option (Fin 32)) (others : Nat) (err : SMap Dbl) (s : State) :
    exec (.frameCheck u d pos others err) s = execFrameCheck u d pos others err s := (rfl)
@[simp] theorem exec_ligatureDelivery (u : BnId) (d : Die) (beat : Fin 31) (s : State) :
    exec (.ligatureDelivery u d beat) s = execLigatureDelivery u d beat s := (rfl)
@[simp] theorem exec_bnFrameReceive (d : Die) (u : BnId) (err : SMap Dbl) (s : State) :
    exec (.bnFrameReceive d u err) s = execBnFrameReceive d u err s := (rfl)
@[simp] theorem exec_tdcRestart (d : Die) (s : State) : exec (.tdcRestart d) s = execTdcRestart d s := (rfl)
@[simp] theorem exec_fvImpress (d : Die) (s : State) : exec (.fvImpress d) s = execFvImpress d s := (rfl)
@[simp] theorem exec_scaleApply (d : Die) (s : State) : exec (.scaleApply d) s = execScaleApply d s := (rfl)
@[simp] theorem exec_phaseMeasurement (d : Die) (t : Tray) (first : BnId) (near : Bool) (vT : Latch) (e1 : Latch) (e2 : Latch) (e3 : Latch) (s : State) :
    exec (.phaseMeasurement d t first near vT e1 e2 e3) s = execPhaseMeasurement d t first near vT e1 e2 e3 s := (rfl)
@[simp] theorem exec_requestServe (d : Die) (s : State) : exec (.requestServe d) s = execRequestServe d s := (rfl)
@[simp] theorem exec_requestTimeout (u : BnId) (d : Die) (s : State) : exec (.requestTimeout u d) s = execRequestTimeout u d s := (rfl)
@[simp] theorem exec_keepalive (d : Die) (s : State) : exec (.keepalive d) s = execKeepalive d s := (rfl)
@[simp] theorem exec_clockLossLine (d : Die) (u : BnId) (s : State) : exec (.clockLossLine d u) s = execClockLossLine d u s := (rfl)
@[simp] theorem exec_refloss (d : Die) (u : BnId) (s : State) : exec (.refloss d u) s = execRefloss d u s := (rfl)
@[simp] theorem exec_referenceReturn (d : Die) (u : BnId) (s : State) : exec (.referenceReturn d u) s = execReferenceReturn d u s := (rfl)
@[simp] theorem exec_probeStep (u : BnId) (n : CompId) (dev : BitVec 40) (s : State) :
    exec (.probeStep u n dev) s = execProbeStep u n dev s := (rfl)
@[simp] theorem exec_probeRound (u : BnId) (s : State) : exec (.probeRound u) s = execProbeRound u s := (rfl)
@[simp] theorem exec_nopInstruction (u : BnId) (n : CompId) (c : Cyc) (op : BitVec 6) (f : IFields) (s : State) :
    exec (.nopInstruction u n c op f) s = execNopInstruction u n c op f s := (rfl)
@[simp] theorem exec_add (u : BnId) (n : CompId) (c : Cyc) (f : IFields) (s : State) : exec (.add u n c f) s = execAdd u n c f s := (rfl)
@[simp] theorem exec_sub (u : BnId) (n : CompId) (c : Cyc) (f : IFields) (s : State) : exec (.sub u n c f) s = execSub u n c f s := (rfl)
@[simp] theorem exec_adds (u : BnId) (n : CompId) (c : Cyc) (f : IFields) (s : State) :
    exec (.adds u n c f) s = execAdds u n c f s := (rfl)
@[simp] theorem exec_subs (u : BnId) (n : CompId) (c : Cyc) (f : IFields) (s : State) :
    exec (.subs u n c f) s = execSubs u n c f s := (rfl)
@[simp] theorem exec_addi (u : BnId) (n : CompId) (c : Cyc) (f : IFields) (s : State) :
    exec (.addi u n c f) s = execAddi u n c f s := (rfl)
@[simp] theorem exec_addis (u : BnId) (n : CompId) (c : Cyc) (f : IFields) (s : State) :
    exec (.addis u n c f) s = execAddis u n c f s := (rfl)
@[simp] theorem exec_ldi (u : BnId) (n : CompId) (c : Cyc) (f : IFields) (s : State) : exec (.ldi u n c f) s = execLdi u n c f s := (rfl)
@[simp] theorem exec_and (u : BnId) (n : CompId) (c : Cyc) (f : IFields) (s : State) : exec (.and u n c f) s = execAnd u n c f s := (rfl)
@[simp] theorem exec_or (u : BnId) (n : CompId) (c : Cyc) (f : IFields) (s : State) : exec (.or u n c f) s = execOr u n c f s := (rfl)
@[simp] theorem exec_xor (u : BnId) (n : CompId) (c : Cyc) (f : IFields) (s : State) : exec (.xor u n c f) s = execXor u n c f s := (rfl)
@[simp] theorem exec_andi (u : BnId) (n : CompId) (c : Cyc) (f : IFields) (s : State) :
    exec (.andi u n c f) s = execAndi u n c f s := (rfl)
@[simp] theorem exec_ori (u : BnId) (n : CompId) (c : Cyc) (f : IFields) (s : State) : exec (.ori u n c f) s = execOri u n c f s := (rfl)
@[simp] theorem exec_xori (u : BnId) (n : CompId) (c : Cyc) (f : IFields) (s : State) :
    exec (.xori u n c f) s = execXori u n c f s := (rfl)
@[simp] theorem exec_min (u : BnId) (n : CompId) (c : Cyc) (f : IFields) (s : State) : exec (.min u n c f) s = execMin u n c f s := (rfl)
@[simp] theorem exec_max (u : BnId) (n : CompId) (c : Cyc) (f : IFields) (s : State) : exec (.max u n c f) s = execMax u n c f s := (rfl)
@[simp] theorem exec_abs (u : BnId) (n : CompId) (c : Cyc) (f : IFields) (s : State) : exec (.abs u n c f) s = execAbs u n c f s := (rfl)
@[simp] theorem exec_negs (u : BnId) (n : CompId) (c : Cyc) (f : IFields) (s : State) :
    exec (.negs u n c f) s = execNegs u n c f s := (rfl)
@[simp] theorem exec_shl (u : BnId) (n : CompId) (c : Cyc) (f : IFields) (s : State) : exec (.shl u n c f) s = execShl u n c f s := (rfl)
@[simp] theorem exec_shr (u : BnId) (n : CompId) (c : Cyc) (f : IFields) (s : State) : exec (.shr u n c f) s = execShr u n c f s := (rfl)
@[simp] theorem exec_sra (u : BnId) (n : CompId) (c : Cyc) (f : IFields) (s : State) : exec (.sra u n c f) s = execSra u n c f s := (rfl)
@[simp] theorem exec_shli (u : BnId) (n : CompId) (c : Cyc) (f : IFields) (s : State) :
    exec (.shli u n c f) s = execShli u n c f s := (rfl)
@[simp] theorem exec_shri (u : BnId) (n : CompId) (c : Cyc) (f : IFields) (s : State) :
    exec (.shri u n c f) s = execShri u n c f s := (rfl)
@[simp] theorem exec_srai (u : BnId) (n : CompId) (c : Cyc) (f : IFields) (s : State) :
    exec (.srai u n c f) s = execSrai u n c f s := (rfl)
@[simp] theorem exec_ext (u : BnId) (n : CompId) (c : Cyc) (f : IFields) (s : State) : exec (.ext u n c f) s = execExt u n c f s := (rfl)
@[simp] theorem exec_exts (u : BnId) (n : CompId) (c : Cyc) (f : IFields) (s : State) :
    exec (.exts u n c f) s = execExts u n c f s := (rfl)
@[simp] theorem exec_ins (u : BnId) (n : CompId) (c : Cyc) (f : IFields) (s : State) : exec (.ins u n c f) s = execIns u n c f s := (rfl)
@[simp] theorem exec_clz (u : BnId) (n : CompId) (c : Cyc) (f : IFields) (s : State) : exec (.clz u n c f) s = execClz u n c f s := (rfl)
@[simp] theorem exec_cmp (u : BnId) (n : CompId) (c : Cyc) (f : IFields) (s : State) : exec (.cmp u n c f) s = execCmp u n c f s := (rfl)
@[simp] theorem exec_cmpi (u : BnId) (n : CompId) (c : Cyc) (f : IFields) (s : State) :
    exec (.cmpi u n c f) s = execCmpi u n c f s := (rfl)
@[simp] theorem exec_sel (u : BnId) (n : CompId) (c : Cyc) (f : IFields) (s : State) : exec (.sel u n c f) s = execSel u n c f s := (rfl)
@[simp] theorem exec_pset (u : BnId) (n : CompId) (c : Cyc) (f : IFields) (s : State) :
    exec (.pset u n c f) s = execPset u n c f s := (rfl)
@[simp] theorem exec_mula (u : BnId) (n : CompId) (c : Cyc) (f : IFields) (s : State) :
    exec (.mula u n c f) s = execMula u n c f s := (rfl)
@[simp] theorem exec_mac (u : BnId) (n : CompId) (c : Cyc) (f : IFields) (s : State) : exec (.mac u n c f) s = execMac u n c f s := (rfl)
@[simp] theorem exec_macs (u : BnId) (n : CompId) (c : Cyc) (f : IFields) (s : State) :
    exec (.macs u n c f) s = execMacs u n c f s := (rfl)
@[simp] theorem exec_msu (u : BnId) (n : CompId) (c : Cyc) (f : IFields) (s : State) : exec (.msu u n c f) s = execMsu u n c f s := (rfl)
@[simp] theorem exec_msus (u : BnId) (n : CompId) (c : Cyc) (f : IFields) (s : State) :
    exec (.msus u n c f) s = execMsus u n c f s := (rfl)
@[simp] theorem exec_maci (u : BnId) (n : CompId) (c : Cyc) (f : IFields) (s : State) :
    exec (.maci u n c f) s = execMaci u n c f s := (rfl)
@[simp] theorem exec_rda (u : BnId) (n : CompId) (c : Cyc) (f : IFields) (s : State) : exec (.rda u n c f) s = execRda u n c f s := (rfl)
@[simp] theorem exec_wra (u : BnId) (n : CompId) (c : Cyc) (f : IFields) (s : State) : exec (.wra u n c f) s = execWra u n c f s := (rfl)
@[simp] theorem exec_mul (u : BnId) (n : CompId) (c : Cyc) (f : IFields) (s : State) : exec (.mul u n c f) s = execMul u n c f s := (rfl)
@[simp] theorem exec_tld (u : BnId) (n : CompId) (c : Cyc) (f : IFields) (s : State) : exec (.tld u n c f) s = execTld u n c f s := (rfl)
@[simp] theorem exec_luti (u : BnId) (n : CompId) (c : Cyc) (f : IFields) (s : State) :
    exec (.luti u n c f) s = execLuti u n c f s := (rfl)
@[simp] theorem exec_recip (u : BnId) (n : CompId) (c : Cyc) (f : IFields) (s : State) :
    exec (.recip u n c f) s = execRecip u n c f s := (rfl)
@[simp] theorem exec_rstep (u : BnId) (n : CompId) (c : Cyc) (f : IFields) (s : State) :
    exec (.rstep u n c f) s = execRstep u n c f s := (rfl)
@[simp] theorem exec_xsend (u : BnId) (n : CompId) (c : Cyc) (f : IFields) (s : State) :
    exec (.xsend u n c f) s = execXsend u n c f s := (rfl)
@[simp] theorem exec_xrecv (u : BnId) (n : CompId) (c : Cyc) (f : IFields) (s : State) :
    exec (.xrecv u n c f) s = execXrecv u n c f s := (rfl)
@[simp] theorem exec_rsend (u : BnId) (n : CompId) (c : Cyc) (f : IFields) (s : State) :
    exec (.rsend u n c f) s = execRsend u n c f s := (rfl)
@[simp] theorem exec_rrecv (u : BnId) (n : CompId) (c : Cyc) (f : IFields) (s : State) :
    exec (.rrecv u n c f) s = execRrecv u n c f s := (rfl)
@[simp] theorem exec_gput (u : BnId) (n : CompId) (c : Cyc) (f : IFields) (s : State) :
    exec (.gput u n c f) s = execGput u n c f s := (rfl)
@[simp] theorem exec_gget (u : BnId) (n : CompId) (c : Cyc) (f : IFields) (s : State) :
    exec (.gget u n c f) s = execGget u n c f s := (rfl)
@[simp] theorem exec_jput (u : BnId) (n : CompId) (c : Cyc) (f : IFields) (s : State) :
    exec (.jput u n c f) s = execJput u n c f s := (rfl)
@[simp] theorem exec_mark (u : BnId) (n : CompId) (c : Cyc) (f : IFields) (s : State) :
    exec (.mark u n c f) s = execMark u n c f s := (rfl)
@[simp] theorem exec_rdsys (u : BnId) (n : CompId) (c : Cyc) (f : IFields) (s : State) :
    exec (.rdsys u n c f) s = execRdsys u n c f s := (rfl)
@[simp] theorem exec_compositorScrub (u : BnId) (s : State) : exec (.compositorScrub u) s = execCompositorScrub u s := (rfl)
@[simp] theorem exec_bankCopy (u : BnId) (n : CompId) (s : State) : exec (.bankCopy u n) s = execBankCopy u n s := (rfl)
@[simp] theorem exec_tblCrc (u : BnId) (n : CompId) (s : State) : exec (.tblCrc u n) s = execTblCrc u n s := (rfl)
@[simp] theorem exec_impressApply (u : BnId) (s : State) : exec (.impressApply u) s = execImpressApply u s := (rfl)
@[simp] theorem exec_queueFlushApply (u : BnId) (q : Fin 64) (s : State) :
    exec (.queueFlushApply u q) s = execQueueFlushApply u q s := (rfl)
@[simp] theorem exec_backgroundScrub (u : BnId) (s : State) : exec (.backgroundScrub u) s = execBackgroundScrub u s := (rfl)
@[simp] theorem exec_scrubComplete (u : BnId) (s : State) : exec (.scrubComplete u) s = execScrubComplete u s := (rfl)
@[simp] theorem exec_waterMarks (u : BnId) (s : State) : exec (.waterMarks u) s = execWaterMarks u s := (rfl)
@[simp] theorem exec_cutStep (u : BnId) (s : State) : exec (.cutStep u) s = execCutStep u s := (rfl)
@[simp] theorem exec_runStart (u : BnId) (s : State) : exec (.runStart u) s = execRunStart u s := (rfl)
@[simp] theorem exec_drain (u : BnId) (s : State) : exec (.drain u) s = execDrain u s := (rfl)
@[simp] theorem exec_drainEnd (u : BnId) (s : State) : exec (.drainEnd u) s = execDrainEnd u s := (rfl)
@[simp] theorem exec_sheetAssembly (u : BnId) (s : State) : exec (.sheetAssembly u) s = execSheetAssembly u s := (rfl)
@[simp] theorem exec_sheetTransmit (u : BnId) (s : State) : exec (.sheetTransmit u) s = execSheetTransmit u s := (rfl)
@[simp] theorem exec_trainingBurstEnd (u : BnId) (l : Lane) (s : State) :
    exec (.trainingBurstEnd u l) s = execTrainingBurstEnd u l s := (rfl)
@[simp] theorem exec_los (u : BnId) (l : Lane) (asserted : Bool) (s : State) :
    exec (.los u l asserted) s = execLos u l asserted s := (rfl)
@[simp] theorem exec_lol (u : BnId) (l : Lane) (lost : Bool) (s : State) : exec (.lol u l lost) s = execLol u l lost s := (rfl)
@[simp] theorem exec_blockLock (u : BnId) (l : Lane) (valid : Bool) (s : State) :
    exec (.blockLock u l valid) s = execBlockLock u l valid s := (rfl)
@[simp] theorem exec_wakePattern (u : BnId) (active : Bool) (samples : Nat) (s : State) :
    exec (.wakePattern u active samples) s = execWakePattern u active samples s := (rfl)
@[simp] theorem exec_crossLinkFrame (u : BnId) (arrived : Bool) (blocksOk : Bool) (inWindow : Bool) (err : BitVec 256) (s : State) :
    exec (.crossLinkFrame u arrived blocksOk inWindow err) s = execCrossLinkFrame u arrived blocksOk inWindow err s := (rfl)
@[simp] theorem exec_xlinkDown (u : BnId) (s : State) : exec (.xlinkDown u) s = execXlinkDown u s := (rfl)
@[simp] theorem exec_xlinkUp (u : BnId) (s : State) : exec (.xlinkUp u) s = execXlinkUp u s := (rfl)
@[simp] theorem exec_anchor (u : BnId) (s : State) : exec (.anchor u) s = execAnchor u s := (rfl)
@[simp] theorem exec_twin (u : BnId) (s : State) : exec (.twin u) s = execTwin u s := (rfl)
@[simp] theorem exec_state (u : BnId) (s : State) : exec (.state u) s = execState u s := (rfl)
@[simp] theorem exec_entryAsk (u : BnId) (s : State) : exec (.entryAsk u) s = execEntryAsk u s := (rfl)
@[simp] theorem exec_entry (u : BnId) (s : State) : exec (.entry u) s = execEntry u s := (rfl)
@[simp] theorem exec_entryDefer (u : BnId) (s : State) : exec (.entryDefer u) s = execEntryDefer u s := (rfl)
@[simp] theorem exec_lock (u : BnId) (s : State) : exec (.lock u) s = execLock u s := (rfl)
@[simp] theorem exec_entryAbort (u : BnId) (s : State) : exec (.entryAbort u) s = execEntryAbort u s := (rfl)
@[simp] theorem exec_handover (u : BnId) (s : State) : exec (.handover u) s = execHandover u s := (rfl)
@[simp] theorem exec_accept (u : BnId) (s : State) : exec (.accept u) s = execAccept u s := (rfl)
@[simp] theorem exec_commit (u : BnId) (s : State) : exec (.commit u) s = execCommit u s := (rfl)
@[simp] theorem exec_handoverEnd (u : BnId) (s : State) : exec (.handoverEnd u) s = execHandoverEnd u s := (rfl)
@[simp] theorem exec_therm (u : BnId) (s : State) : exec (.therm u) s = execTherm u s := (rfl)
@[simp] theorem exec_leaseExpiry (u : BnId) (s : State) : exec (.leaseExpiry u) s = execLeaseExpiry u s := (rfl)
@[simp] theorem exec_claim (u : BnId) (s : State) : exec (.claim u) s = execClaim u s := (rfl)
@[simp] theorem exec_dozeEntry (u : BnId) (s : State) : exec (.dozeEntry u) s = execDozeEntry u s := (rfl)
@[simp] theorem exec_dozeExit (u : BnId) (s : State) : exec (.dozeExit u) s = execDozeExit u s := (rfl)
@[simp] theorem exec_dozeLimit (u : BnId) (s : State) : exec (.dozeLimit u) s = execDozeLimit u s := (rfl)
@[simp] theorem exec_sleepEntry (u : BnId) (s : State) : exec (.sleepEntry u) s = execSleepEntry u s := (rfl)
@[simp] theorem exec_clockSourceFailure (u : BnId) (src : ClkSource) (s : State) :
    exec (.clockSourceFailure u src) s = execClockSourceFailure u src s := (rfl)
@[simp] theorem exec_clockWaitEnd (u : BnId) (ms : BitVec 16) (s : State) : exec (.clockWaitEnd u ms) s = execClockWaitEnd u ms s := (rfl)
@[simp] theorem exec_xoFail (u : BnId) (s : State) : exec (.xoFail u) s = execXoFail u s := (rfl)
@[simp] theorem exec_pantryScrub (u : BnId) (s : State) : exec (.pantryScrub u) s = execPantryScrub u s := (rfl)
@[simp] theorem exec_pantrySweep (u : BnId) (s : State) : exec (.pantrySweep u) s = execPantrySweep u s := (rfl)
@[simp] theorem exec_sessionTimeout (u : BnId) (s : State) : exec (.sessionTimeout u) s = execSessionTimeout u s := (rfl)
@[simp] theorem exec_lockoutEnd (u : BnId) (lvl : KeyLevel) (s : State) : exec (.lockoutEnd u lvl) s = execLockoutEnd u lvl s := (rfl)
@[simp] theorem exec_timeStepEffect (u : BnId) (s : State) : exec (.timeStepEffect u) s = execTimeStepEffect u s := (rfl)
@[simp] theorem exec_timeRateEffect (u : BnId) (s : State) : exec (.timeRateEffect u) s = execTimeRateEffect u s := (rfl)
@[simp] theorem exec_hkRoundStart (u : BnId) (s : State) : exec (.hkRoundStart u) s = execHkRoundStart u s := (rfl)
@[simp] theorem exec_hkOutputSample (u : BnId) (raw : Word) (instant : Nat) (s : State) :
    exec (.hkOutputSample u raw instant) s = execHkOutputSample u raw instant s := (rfl)
@[simp] theorem exec_hkDwellEnd (u : BnId) (s : State) : exec (.hkDwellEnd u) s = execHkDwellEnd u s := (rfl)
@[simp] theorem exec_urgentConversion (u : BnId) (s : State) : exec (.urgentConversion u) s = execUrgentConversion u s := (rfl)
@[simp] theorem exec_openCircuit (u : BnId) (s : State) : exec (.openCircuit u) s = execOpenCircuit u s := (rfl)
@[simp] theorem exec_overRange (u : BnId) (negative : Bool) (s : State) :
    exec (.overRange u negative) s = execOverRange u negative s := (rfl)
@[simp] theorem exec_blank (u : BnId) (high : Bool) (s : State) : exec (.blank u high) s = execBlank u high s := (rfl)
@[simp] theorem exec_grace (u : BnId) (s : State) : exec (.grace u) s = execGrace u s := (rfl)
@[simp] theorem exec_holdS (u : BnId) (s : State) : exec (.holdS u) s = execHoldS u s := (rfl)
@[simp] theorem exec_holdoverCrossing (u : BnId) (s : State) : exec (.holdoverCrossing u) s = execHoldoverCrossing u s := (rfl)
@[simp] theorem exec_clockWaitAdvance (u : BnId) (s : State) : exec (.clockWaitAdvance u) s = execClockWaitAdvance u s := (rfl)
@[simp] theorem exec_powerGood (dom : DomRef) (s : State) : exec (.powerGood dom) s = execPowerGood dom s := (rfl)
@[simp] theorem exec_testAccessPort (ev : TapEvent) (s : State) : exec (.testAccessPort ev) s = execTestAccessPort ev s := (rfl)
@[simp] theorem exec_shadowEntryEnd (u : BnId) (s : State) : exec (.shadowEntryEnd u) s = execShadowEntryEnd u s := (rfl)

end Sys2Proof.Machine
end

