-- ==== Sys2Proof/Laws/Packet.lean ====
section
/-! SUPPORT. What the framing of a packet row answers when its packet stands first and may run. -/

namespace Sys2Proof.Machine

theorem DevState.takes_of_runs {d : DevState} (h : d.runsPackets = true) : d.takesPackets = true := by cases d <;> first | rfl | exact h

theorem Pkt.asks_self (p : Pkt) : p.asks p = true := by
  unfold Pkt.asks
  cases p.params <;> simp

/-- A packet row whose packet stands first runs at once. -/
theorem Bn.begin_first (b : Bn) (op : Nat) (tag : Tag) (ws : List Word) (rest : List Pkt) (hw : b.waiting = mkPkt op tag ws :: rest)
    (hj : b.job = none) (hd : b.power.dev.runsPackets = true) (hc : b.power.clkWait = false) :
    b.begin op tag ws = .go { b with waiting := rest } := by
  unfold Bn.begin
  simp only [DevState.takes_of_runs hd, hw, hj, hd, hc, Pkt.asks_self, List.head?_cons, Option.any_some, Option.isSome_none,
    List.tail_cons, Bool.true_eq_false, Bool.false_eq_true, or_self, ite_true, ite_false]

theorem State.packet_first (s : State) (u : BnId) (op : Nat) (tag : Tag) (ws : List Word) (rest : List Pkt) (f : State → State)
    (hw : (s.bn u).waiting = mkPkt op tag ws :: rest) (hj : (s.bn u).job = none) (hd : (s.bn u).power.dev.runsPackets = true)
    (hc : (s.bn u).power.clkWait = false) :
    s.packet u op tag ws f = f (s.setBn u { s.bn u with waiting := rest }) := by
  rw [State.packet, Bn.begin_first _ _ _ _ _ hw hj hd hc]

theorem State.unitPacket_first (s : State) (u : BnId) (op : Nat) (tag : Tag) (ws : List Word) (rest : List Pkt)
    (f : Bn → Bn × Status × List Word)
    (hw : (s.bn u).waiting = mkPkt op tag ws :: rest) (hj : (s.bn u).job = none) (hd : (s.bn u).power.dev.runsPackets = true)
    (hc : (s.bn u).power.clkWait = false) :
    s.unitPacket u op tag ws f = s.setBn u ((f { s.bn u with waiting := rest }).1.reply tag.toNat op
      (f { s.bn u with waiting := rest }).2.1 (f { s.bn u with waiting := rest }).2.2) := by
  rw [State.unitPacket, State.packet_first _ _ _ _ _ _ _ hw hj hd hc]
  simp only [State.bn_setBn, State.setBn_setBn]

end Sys2Proof.Machine
end

