-- ==== Sys2Proof/Laws/Time.lean ====
section
/-! SUPPORT. Time quads (R149, R150): a quad written and read back, what a write of one leaves alone; the effect of a fast code on a
unit that is awake. -/

namespace Sys2Proof.Machine

theorem wbit_eq (w : Word) (i : Nat) : wbit w i = decide (w.toNat / 2 ^ i % 2 = 1) := Nat.testBit_eq_decide_div_mod_eq

theorem nat_regroup (ns : Nat) : ns / 2 ^ 22 * 2 ^ 22 + ns / 4 % 2 ^ 20 * 4 + ns % 4 = ns := by
  have b0 : ns / 2 ^ 22 = ns / 4 / 2 ^ 20 := by omega
  rw [b0]
  have c1 := Nat.div_add_mod (ns / 4) (2 ^ 20)
  have c2 := Nat.div_add_mod ns 4
  generalize ns / 4 = m at *
  generalize m / 2 ^ 20 = p at *
  generalize m % 2 ^ 20 = q at *
  generalize ns % 4 = r at *
  omega

theorem quadTk_quad (tk : Nat) :
    quadTk ((quad tk).getD 0 0) ((quad tk).getD 1 0) ((quad tk).getD 2 0) ((quad tk).getD 3 0) = tk % (2 ^ 32 * 1024000000000) := by
  simp only [quad, List.getD_cons_zero, List.getD_cons_succ]
  have hs : tk / 1024000000000 % 2 ^ 32 < 2 ^ 32 := Nat.mod_lt _ (by decide)
  have hn : tk % 1024000000000 / 1024 < 10 ^ 9 := by omega
  have hf : tk % 1024 < 1024 := Nat.mod_lt _ (by decide)
  have e : tk % (2 ^ 32 * 1024000000000) =
      tk / 1024000000000 % 2 ^ 32 * 1024000000000 + tk % 1024000000000 / 1024 * 1024 + tk % 1024 := by omega
  rw [e]
  generalize tk / 1024000000000 % 2 ^ 32 = sec at hs ⊢
  generalize tk % 1024000000000 / 1024 = ns at hn ⊢
  generalize tk % 1024 = fr at hf ⊢
  have a0 : (wof (sec / 2 ^ 12)).toNat = sec / 2 ^ 12 := by simp only [wof, BitVec.toNat_ofNat]; omega
  have a1 : fld (wof (sec % 2 ^ 12 * 2 ^ 8 + ns / 2 ^ 22)) 19 8 = sec % 2 ^ 12 := by
    simp only [fld, bitsOf, wof, BitVec.toNat_ofNat]; omega
  have a2 : fld (wof (sec % 2 ^ 12 * 2 ^ 8 + ns / 2 ^ 22)) 7 0 = ns / 2 ^ 22 := by
    simp only [fld, bitsOf, wof, BitVec.toNat_ofNat]; omega
  have a3 : (wof (ns / 4)).toNat = ns / 4 % 2 ^ 20 := by simp only [wof, BitVec.toNat_ofNat]
  have a4 : fld (wof (ns % 4 * 2 ^ 18 + fr * 2 ^ 8)) 19 18 = ns % 4 := by
    simp only [fld, bitsOf, wof, BitVec.toNat_ofNat]; omega
  have a5 : fld (wof (ns % 4 * 2 ^ 18 + fr * 2 ^ 8)) 17 8 = fr := by
    simp only [fld, bitsOf, wof, BitVec.toNat_ofNat]; omega
  rw [quadTk, a0, a1, a2, a3, a4, a5]
  have b1 : sec / 2 ^ 12 * 2 ^ 12 + sec % 2 ^ 12 = sec := by omega
  have b2 := nat_regroup ns
  rw [b1, b2]

theorem Bn.wrQuad_eq (b : Bn) (o tk : Nat) : b.wrQuad o tk =
    (((b.wr o ((quad tk).getD 0 0)).wr (o + 1) ((quad tk).getD 1 0)).wr (o + 2) ((quad tk).getD 2 0)).wr (o + 3) ((quad tk).getD 3 0) := by
  simp only [Bn.wrQuad, quad, List.zipIdx, List.foldl]; rfl

theorem Bn.rd_wrQuad_ne (b : Bn) (o tk : Nat) {j : Nat} (h : ¬ (o ≤ j ∧ j < o + 4)) : (b.wrQuad o tk).rd j = b.rd j := by
  rw [Bn.wrQuad_eq, Bn.rd_wr_ne, Bn.rd_wr_ne, Bn.rd_wr_ne, Bn.rd_wr_ne] <;> omega

theorem Bn.rdQuad_wrQuad (b : Bn) (o tk : Nat) : (b.wrQuad o tk).rdQuad o = tk % (2 ^ 32 * 1024000000000) := by
  have h0 : (b.wrQuad o tk).rd o = (quad tk).getD 0 0 := by
    rw [Bn.wrQuad_eq, Bn.rd_wr_ne, Bn.rd_wr_ne, Bn.rd_wr_ne, Bn.rd_wr_self] <;> omega
  have h1 : (b.wrQuad o tk).rd (o + 1) = (quad tk).getD 1 0 := by
    rw [Bn.wrQuad_eq, Bn.rd_wr_ne, Bn.rd_wr_ne, Bn.rd_wr_self] <;> omega
  have h2 : (b.wrQuad o tk).rd (o + 2) = (quad tk).getD 2 0 := by
    rw [Bn.wrQuad_eq, Bn.rd_wr_ne, Bn.rd_wr_self]; omega
  have h3 : (b.wrQuad o tk).rd (o + 3) = (quad tk).getD 3 0 := by
    rw [Bn.wrQuad_eq, Bn.rd_wr_self]
  rw [Bn.rdQuad, h0, h1, h2, h3, quadTk_quad]

theorem Bn.rd_wrXc_ne (b : Bn) (o n : Nat) {j : Nat} (h : ¬ (o ≤ j ∧ j < o + 3)) : (b.wrXc o n).rd j = b.rd j := by
  rw [Bn.wrXc, Bn.rd_wrN, Bn.rd_wrN, Bn.rd_wrN, if_neg, if_neg, if_neg] <;> omega

theorem Bn.rdXc_wrXc (b : Bn) (o n : Nat) : (b.wrXc o n).rdXc o = n % 2 ^ 48 := by
  have h0 : (b.wrXc o n).rd o = wof n := by rw [Bn.wrXc, Bn.rd_wrN, Bn.rd_wrN, Bn.rd_wrN, if_neg, if_neg, if_pos rfl] <;> omega
  have h1 : (b.wrXc o n).rd (o + 1) = wof (n / 2 ^ 20) := by rw [Bn.wrXc, Bn.rd_wrN, Bn.rd_wrN, if_neg, if_pos rfl]; omega
  have h2 : (b.wrXc o n).rd (o + 2) = wof (bitsOf n 47 40) := by rw [Bn.wrXc, Bn.rd_wrN, if_pos rfl]
  rw [Bn.rdXc, h0, h1, h2]
  simp only [xcOf, wof, fld, bitsOf, BitVec.toNat_ofNat]
  omega

/-- A unit that is awake, with no entry accepted, takes no note of downlink activity (R381). -/
theorem Bn.activity_awake (b : Bn) (h1 : b.power.dev ≠ .doze) (h2 : b.power.entry = none) : b.activity = b := by
  unfold Bn.activity; split <;> simp_all

/-- A fast code on a unit that is awake: its effect, and nothing else. -/
theorem State.fastRow_awake (s : State) (u : BnId) (f : Bn → Bn) (h1 : s.hasBn u = true) (h2 : (s.bn u).downOk = true)
    (h3 : (s.bn u).power.dev ≠ .doze) (h4 : (s.bn u).power.entry = none) : s.fastRow u f = s.setBn u (f (s.bn u)) := by
  simp only [State.fastRow, h1, h2, and_self, if_true, State.mapBn, Bn.activity_awake _ h3 h4]

/-- An access of a unit that executes: its effect, with the status recorded. -/
theorem State.access_works (s : State) (u : BnId) (f : Bn → Bn × Status) (h1 : s.hasBn u = true) (h2 : (s.bn u).executes = true) :
    s.access u f = s.setBn u (Bn.noted (f (s.bn u))) := by
  simp only [State.access, h1, h2, and_self, if_true]

end Sys2Proof.Machine
end

