-- ==== Sys2Proof/Safety.lean ====
section
/-! DEFINITION. What counts as a safe run: no step faults and no step is refused. -/

namespace Sys2Proof

/-- A step that neither faults nor is refused. -/
def StepSafe (s : Machine.State) : Prop := ∃ t, Machine.step s = .next t

/-- A run of `k` steps that neither faults nor is refused. -/
def RunSafe : Nat → Machine.State → Prop
  | 0, _ => True
  | k + 1, s => ∃ t, Machine.step s = .next t ∧ RunSafe k t

end Sys2Proof
end

