-- ==== Sys2Proof/WellFormed.lean ====
section
/-! DEFINITION. The checks of a command's operands beyond their types: the lengths of packets (R441), the beats of the frames
that an event may disturb (R114, R129), the samples of a run on the wake detector (R382). -/

namespace Sys2Proof

/-- Error patterns name beats below a bound, in rising order. -/
def beatsBelow (n : Nat) : SMap Dbl → Bool
  | [] => true
  | (k, _) :: t => decide (k < n) && (t.all (fun p => decide (k < p.1))) && beatsBelow n t

/-- What a well-formed command meets. -/
def Instr.wellFormed : Instr → Bool
  | .echo _ _ ws => decide (ws.length ≤ 15)
  | .openSession _ _ _ key => decide (key.length = 7)
  | .write _ _ _ vals => decide (1 ≤ vals.length) && decide (vals.length ≤ 62)
  | .stage _ _ _ vals => decide (1 ≤ vals.length) && decide (vals.length ≤ 62)
  | .formeLoad _ _ _ ws => decide (1 ≤ ws.length) && decide (ws.length ≤ 62)
  | .stateRestore _ _ _ ws => decide (2 ≤ ws.length) && decide (ws.length ≤ 62) && decide (ws.length % 2 = 0)
  | .keySet _ _ _ _ digest => decide (digest.length = 13)
  | .revoke _ _ _ _ digest => decide (digest.length = 13)
  | .patchLoad _ _ _ ws => decide (ws.length = 10)
  | .patchClear _ _ _ ws => decide (ws.length = 10)
  | .frameCheck _ _ _ _ err => beatsBelow 32 err
  | .bnFrameReceive _ _ err => beatsBelow 8 err
  | .wakePattern _ _ samples => decide (0 < samples)
  | _ => true

end Sys2Proof
end

