-- ==== Sys2Proof/Tests/Slice0.lean ====
section
/-! SUPPORT. Tests. First an ill-formed term for each check of WellFormed; then, for every statement of Certificates/Slice0 with
hypotheses, a witness: concrete states and operands that meet the premises of each of its clauses. -/

namespace Sys2Proof.Tests

open Sys2Proof Sys2Proof.Machine Sys2Proof.Claims

/-! ## WellFormed -/

/-- `n` words. -/
def words (n : Nat) : List Word := List.replicate n 0

theorem test_wf_echo : (Instr.echo .a 0 (words 16)).wellFormed = false ∧ (Instr.echo .a 0 (words 15)).wellFormed = true := by decide
theorem test_wf_open : (Instr.openSession .a 0 0 (words 6)).wellFormed = false ∧ (Instr.openSession .a 0 0 (words 7)).wellFormed = true := by
  decide
theorem test_wf_write : (Instr.write .a 0 0 []).wellFormed = false ∧ (Instr.write .a 0 0 (words 63)).wellFormed = false ∧
    (Instr.write .a 0 0 (words 62)).wellFormed = true := by decide
theorem test_wf_stage : (Instr.stage .a 0 0 []).wellFormed = false ∧ (Instr.stage .a 0 0 (words 63)).wellFormed = false ∧
    (Instr.stage .a 0 0 (words 1)).wellFormed = true := by decide
theorem test_wf_forme_load : (Instr.formeLoad .a 0 0 []).wellFormed = false ∧ (Instr.formeLoad .a 0 0 (words 63)).wellFormed = false := by
  decide
theorem test_wf_state_restore : (Instr.stateRestore .a 0 0 []).wellFormed = false ∧ (Instr.stateRestore .a 0 0 (words 3)).wellFormed = false ∧
    (Instr.stateRestore .a 0 0 (words 64)).wellFormed = false ∧ (Instr.stateRestore .a 0 0 (words 62)).wellFormed = true := by decide
theorem test_wf_key_set : (Instr.keySet .a 0 .operate 0 (words 12)).wellFormed = false ∧
    (Instr.keySet .a 0 .operate 0 (words 13)).wellFormed = true := by decide
theorem test_wf_revoke : (Instr.revoke .a 0 .operate 0 (words 14)).wellFormed = false := by decide
theorem test_wf_patch_load : (Instr.patchLoad .a 0 0 (words 9)).wellFormed = false ∧ (Instr.patchLoad .a 0 0 (words 10)).wellFormed = true := by
  decide
theorem test_wf_patch_clear : (Instr.patchClear .a 0 0 (words 11)).wellFormed = false := by decide
theorem test_wf_frame_check : (Instr.frameCheck .a 0 none 0 [(32, 1)]).wellFormed = false ∧
    (Instr.frameCheck .a 0 none 0 [(5, 1), (5, 1)]).wellFormed = false ∧ (Instr.frameCheck .a 0 none 0 [(5, 1), (31, 1)]).wellFormed = true := by
  decide
theorem test_wf_bn_frame : (Instr.bnFrameReceive 0 .a [(8, 1)]).wellFormed = false ∧ (Instr.bnFrameReceive 0 .a [(7, 1)]).wellFormed = true := by
  decide
theorem test_wf_wake_pattern : (Instr.wakePattern .a true 0).wellFormed = false ∧ (Instr.wakePattern .a true 1).wellFormed = true := by decide

/-! ## The states of the witnesses -/

/-- A lane in content, locked. -/
def laneUp : LaneSt := { LaneSt.rest with st := .active, lol := false, blockLock := true, cdrLock := true }

/-- The domains of a unit beside the compositors, on, and those of compositor 0. -/
def domsUp : SMap Dom := [0, 128] ++ List.range' 136 34 |>.map (fun n => (n, ⟨.on, false, false, 0, 0, 0⟩))

/-- Unit A in a device state with a role: clocks locked, lanes in content, at own crossing 4 000 with counter 5 120. -/
def unit (dev : DevState) (role : Role) : Bn :=
  { Bn.dark .a with
    power := { (Bn.dark .a).power with dev := dev, doms := domsUp, xoOk := true, pllLock := true, pllRef := 2, ctrlIn := 2 }
    lanes := Vector.replicate 7 laneUp
    time := { (Bn.dark .a).time with counter := 5120, prev := 5119, xc := 4000 }
    lease := { LeaseSt.none with role := role, exp := 6000 } }

/-- The package with unit A as given. -/
def st (b : Bn) : State := State.reset.setBn .a b

/-- The same as an SLN-2. -/
def st2 (b : Bn) : State := { st b with variant := .sln2 }

def ready : Bn := unit .ready .active
def cold : Bn := unit .ready .cold
def running : Bn := unit .run .active
def minimal : Bn := unit .minimal .minimal
def booting : Bn := unit .boot .none
def dozing : Bn := unit .doze .active

/-- The domains of an FV die, on. -/
def fdoms : SMap Dom := [0, 1, 64, 65, 128, 129] ++ List.range' 132 3 |>.map (fun n => (n, ⟨.on, false, false, 0, 0, 0⟩))

/-- An FV die with supplies, clocked from port A, out of SAFE, at its own crossing 2 048. -/
def fvUp : Fv :=
  { Fv.dark with
    powered := true, safe := false, wasSafe := false, xc := 2048, num := 1024, renumber := false, doms := fdoms
    portA := { FvPort.dead with refOn := true, trained := true } }

/-- The package with FV die 0 as given. -/
def stf (f : Fv) : State := State.reset.setFv 0 f

/-- The word of a packet with these operands. -/
def asks (b : Bn) (op : Nat) (ws : List Word) : Bn := { b with waiting := [mkPkt op 0 ws] }

theorem st_bn (b : Bn) : (st b).bn .a = b := rfl

/-! ## Witnesses: the queue, boot, time -/

theorem witness_StepRunsFrontCommand : ({ State.reset with pending := [.nop .a 0] } : State).pending = .nop .a 0 :: [] ∧
    State.reset.pending = [] := by decide

theorem witness_ResetsAndPowerRemoval : State.reset.hasBn .b = true ∧ (State.reset.bn .b).power.dev = .off ∧
    (st ready).hasBn .a = true ∧ ready.power.dev.resets = true ∧ ready.power.dev.watched = true ∧
    { booting with boot := { booting.boot with deadlineRun := true } }.boot.deadlineRun = true ∧ booting.boot.outcome = 0 ∧
    booting.fullArmed = false := by decide

theorem witness_BootAndDomains :
    (booting.power.dev = .boot ∧ booting.boot.wakeSeq = false ∧ { booting with boot := { booting.boot with step := 5 } }.boot.step = 5 ∧
      booting.domOn 156 = true ∧ booting.power.xoOk = true ∧ booting.domOn 168 = true ∧
      { booting with power := { booting.power with pllLock := false } }.power.pllLock = false) ∧
    ((stf fvUp).variant.hasFv 0 = true ∧ booting.boot.minimal = false ∧ booting.domOn 159 = true ∧ wbit (booting.recAt 5) 12 = false ∧
      (stf fvUp |>.fv 0).powered = true) ∧
    (let b := ready.setDom 127 ⟨.off, false, true, 0, 2, 0⟩
     b.power.dev = .ready ∧ b.job = none ∧ (b.dom 127).waking = 2 ∧ (b.dom 127).power = .off ∧ coreDom 127 = false) ∧
    (let f := fvUp.setDom 63 ⟨.off, false, true, 0, 2, 0⟩
     f.powered = true ∧ (f.dom 63).waking = 2) := by decide

theorem witness_FvResetAndRestore :
    ((stf fvUp).variant.hasFv 0 = true ∧ (stf fvUp |>.fv 0).powered = true ∧ fvUp.testDone = false ∧ fvUp.portA.refOn = true) ∧
    ((State.reset.fv 5).powered = false ∧ (true || (State.reset.fv 5).powered) = true) ∧
    (ready.holds = true ∧ ready.pantry.restore.any (fun p => p.1 == 0) = false) := by decide

/-- A time-code block: type 0010b in [59:56] with a CRC that holds. -/
theorem witness_BlockBoundary : (st ready).hasBn .a = true ∧ ready.downOk = true ∧ cold.downOk = true ∧ minimal.downOk = true ∧
    ∃ p : BitVec 64, crc8 p = p.toNat % 256 ∧ bitsOf p.toNat 59 56 = 2 := by
  refine ⟨by decide, by decide, by decide, by decide, ?_⟩
  exact ⟨BitVec.ofNat 64 (2 * 2 ^ 56 + crc8 (BitVec.ofNat 64 (2 * 2 ^ 56))), by decide +kernel, by decide +kernel⟩

theorem witness_FastCodes :
    (Hears (st running) .a ∧ running.power.dev = .run) ∧ (Hears (st ready) .a ∧ ready.power.dev ≠ .run ∧ ready.power.dev = .ready) ∧
    (Hears (st booting) .a ∧ booting.power.dev = .boot) ∧
    (let b := { ready with power := { ready.power with entry := some ⟨true, none⟩ } }
     (st b).hasBn .a = true ∧ b.downOk = true ∧ b.power.dev ≠ .doze ∧ b.power.entry = some ⟨true, none⟩) ∧
    (let b := { ready with power := { ready.power with holdEnd := some 3999 } }
     b.power.holdEnd = some 3999 ∧ 3999 < b.xc) := by
  unfold Hears; decide

/-- Arguments 02h and 18h are the least and the greatest d for BN-A, 01h and 19h are out of range, 82h names BN-B. -/
theorem witness_LeaseCodes :
    (Hears (st cold) .a ∧ (st cold).variant ≠ .sln2 ∧ cold.unit = .a) ∧
    ((0x82#8).toNat / 128 ≠ BnId.a.bit ∧ (0x01#8).toNat % 128 < 2 ∧ 24 < (0x19#8).toNat % 128) ∧
    (∀ arg ∈ [0x02#8, 0x18#8], arg.toNat / 128 = BnId.a.bit ∧ ¬ (arg.toNat % 128 < 2 ∨ 24 < arg.toNat % 128)) ∧
    (Hears (st ready) .a ∧ ready.lease.role = .active ∧ ready.now ≤ ready.lease.exp) ∧
    (Hears (st booting) .a ∧ booting.lease.role = .none) ∧
    (¬ (cold.lease.role = .active ∧ cold.now ≤ cold.lease.exp) ∧ cold.lease.gaveUp = false ∧ ¬ fld (cold.rd 0x2002) 12 8 < 2 ∧
      cold.xl.usedNow = none) ∧
    (fld (cold.rd 0x2002) 12 8 < 24) ∧
    ((0x00#8).toNat / 128 % 2 = BnId.a.bit ∧ ready.holds = true ∧ ready.lease.ho = none) := by
  unfold Hears; decide

/-- A sheet stored, the newest of sequence 4FFh, and 3FFh, the newest that an ACK of 03h names; a PROVED bank with tag 63. -/
theorem witness_AckAndGoCodes :
    (let b := { running with regs := [(0x2C1C, 0x4FF#20), (0x2C1D, 1#20)] }
     Hears (st b) .a ∧ (st b).variant ≠ .sln2 ∧ b.rd 0x2C1D ≠ 0 ∧ (0x3FF#20).toNat % 2 ^ 16 = (0x03#8).toNat * 256 + 255 ∧
       (b.rd 0x2C1C - 0x3FF#20).toNat < 2 ^ 16) ∧
    (Hears (st running) .a ∧ running.rd 0x2C1D = 0) ∧ Hears (st2 running) .a ∧
    (let b := { ready with stage := { ready.stage with st := .proved, goTag := 63 } }
     Hears (st b) .a ∧ b.stage.st = .proved ∧ (0xFF#8).toNat % 64 = b.stage.goTag ∧ b.stage.formeIn = false ∧ b.stage.fvDies = []) ∧
    (Hears (st ready) .a ∧ ready.stage.st ≠ .proved) ∧
    (let b := { running with stage := { running.stage with st := .proved, formeIn := true }, acq := { running.acq with phase := .run } }
     Hears (st b) .a ∧ b.stage.formeIn = true ∧ b.loader.cls = 0 ∧ b.acq.phase ≠ .idle ∧ (0x00#8).toNat % 64 = b.stage.goTag) := by
  unfold Hears; decide

/-- A quad of zero is valid; one whose second is full is not. -/
theorem witness_SyncExchange :
    Hears (st ready) .a ∧ Works (st ready) .a ∧ quadOk (ready.rd 0x181D) (ready.rd 0x181E) 0 = true ∧
    (let b := { ready with regs := [(0x181D, 0xFFFFF#20)] }
     quadOk (b.rd 0x181D) (b.rd 0x181E) 0 = false) ∧
    ¬ (ready.time.t1Mask = 15 ∧ wbit (ready.rd 0x180F) 11 = true ∧ wbit (ready.rd 0x180F) 10 = true) ∧
    (let b := { ready with regs := [(0x180F, 0xC00#20)], time := { ready.time with t1Mask := 15 } }
     Works (st b) .a ∧ quadOk (b.rd 0x181D) (b.rd 0x181E) 0 = true ∧ (b.time.t1Mask = 15 ∧ wbit (b.rd 0x180F) 11 = true ∧
       wbit (b.rd 0x180F) 10 = true) ∧ b.time.stepIn = false ∧ { b with time := { b.time with stepIn := true } }.time.stepIn = true) := by
  unfold Hears Works; decide

theorem witness_TimeAndHoldover :
    (let b := { ready with lanes := Vector.replicate 7 { laneUp with lol := true } }
     (st b).hasBn .a = true ∧ b.power.dev = .ready ∧ b.power.clkWait = false ∧ b.dnUsable = false ∧ b.time.holdover = false ∧
       b.acq.phase ≠ .startPend ∧ { b with acq := { b.acq with phase := .startPend } }.acq.phase = .startPend) ∧
    (let b := { running with time := { running.time with holdover := true } }
     b.time.holdover = true ∧ b.power.dev = .run ∧ b.dnUsable = true) ∧
    (let b := { ready with time := { ready.time with stepPend := some (5120, 7), ratePend := some (5120, -3) }, regs := [(0x1801, 0x80000#20)] }
     b.time.stepPend = some (b.now, 7) ∧ b.hkc.conv = none ∧ b.time.ratePend = some (b.now, -3) ∧ b.executes = true ∧
       b.power.dev.crosses = true ∧ wbit (b.rd 0x1801) 19 = true) := by decide

/-! ## Witnesses: command packets

`asks b op ws` is a unit with one packet waiting; what its packet row leaves of it before its effect is `b` itself. -/

theorem runs_asks (b : Bn) (op : Nat) (ws : List Word) (h : b.job = none ∧ b.power.dev.runsPackets = true ∧ b.power.clkWait = false) :
    Runs (st (asks b op ws)) .a op 0 ws [] := ⟨rfl, h.1, h.2.1, h.2.2⟩

theorem taken_asks (dev : DevState) (role : Role) (op : Nat) (ws : List Word) :
    taken (st (asks (unit dev role) op ws)) .a [] = unit dev role := rfl

/-- Packets for each row of R429: a bad check word, four waiting, opcode 25h, a NOP with a word, a WRITE at OPEN, a NOP. -/
theorem witness_PacketsScreenedAndAnswered :
    (let p : Pkt := { mkPkt 0 0 [] with check := 0 }
     let b := { ready with arrived := [p] }
     (st b).hasBn .a = true ∧ b.power.dev.takesPackets = true ∧ b.power.clkWait = false ∧ b.arrived = p :: [] ∧
       fld p.check 15 0 ≠ crc16 (p.header :: p.params)) ∧
    (∀ p ∈ [mkPkt 0 0 [], mkPkt 0x25 0 [], mkPkt 0 0 [0], mkPkt 0x05 0 [0, 0]], fld p.check 15 0 = crc16 (p.header :: p.params)) ∧
    4 ≤ { ready with waiting := List.replicate 4 (mkPkt 0 0 []) }.waiting.length ∧ ¬ 4 ≤ ready.waiting.length ∧
    0x24 < fld (mkPkt 0x25 0 []).header 19 12 ∧ lenOk 0 1 = false ∧ lenOk 0x05 2 = true ∧ ready.sess.level.code < opLevel 0x05 ∧
    lenOk 0 0 = true ∧ opLevel 0 ≤ ready.sess.level.code ∧
    (let b := { ready with openPkt := some ⟨[0], 3744⟩ }
     b.openPkt = some ⟨[0], 3744⟩ ∧ 3744 + 256 ≤ b.xc) ∧
    (words 15).length ≤ 15 ∧ ready.replies = [] := by decide +kernel

theorem witness_PacketsScreenedAndAnswered_echo : Runs (st (asks ready 0x01 (words 15))) .a 0x01 0 (words 15) [] :=
  runs_asks ready 0x01 (words 15) (by decide)

/-- Queue 34 admits a mark while it has cells left of its quota, and does not when refused items left it in another state. -/
theorem witness_PacketsScreenedAndAnswered_admits :
    ({ ready with gal := { ready.gal with bump := 0 } }.qItem 34 [0]).isSome = true ∧
    ({ ready with gal := { ready.gal with queues := [(34, { Queue.empty with mode := .cut })] } }.qItem 34 [0]) = none := by decide +kernel

theorem witness_SessionPackets :
    Runs (st (asks ready 0x00 [])) .a 0x00 0 [] [] ∧ Runs (st (asks minimal 0x01 [5])) .a 0x01 0 [5] [] ∧
    Runs (st (asks ready 0x03 [])) .a 0x03 0 [] [] ∧ (∀ d0 ∈ [0#20, 1#20, 2#20, 3#20], Runs (st (asks ready 0x02 (d0 :: words 7))) .a 0x02 0 (d0 :: words 7) []) ∧
    (fld (0 : Word) 1 0 = 0 ∧ fld (3 : Word) 1 0 = 3 ∧ fld (1 : Word) 1 0 = (levelIx .operate).val + 1 ∧
      fld (2 : Word) 1 0 = (levelIx .service).val + 1) ∧
    (ready.sess.locked .operate = false ∧ { ready with sess := { ready.sess with lockA := true } }.sess.locked .operate = true) ∧
    (fld (ready.pw 0x000D) 1 0 < 2 ∧ 2 ≤ fld ((ready.setPw 0x000D 2).pw 0x000D) 1 0 ∧ 2 ≤ fld ((ready.setPw 0x000D 8).pw 0x000D) 3 2) := by
  refine ⟨runs_asks _ _ _ (by decide), runs_asks _ _ _ (by decide), runs_asks _ _ _ (by decide), ?_, by decide, by decide, by decide⟩
  intro d0 _; exact runs_asks _ _ _ (by decide)

/-- A unit whose slot 3 of key A holds the digest of a key of zeros, and one whose slots are revoked. -/
theorem witness_SessionPackets_keys :
    (let d := sealWords (sha256 (keyBits128 (words 7)) 128)
     let b := { ready with sess := (ready.sess.putSlot .operate 0 ⟨true, true, []⟩).putSlot .operate 3 ⟨true, false, d⟩ }
     b.keySlot .operate (words 7) = some 3) ∧
    { ready with sess := ready.sess.putSlot .operate 0 ⟨true, true, []⟩ }.keySlot .operate (words 7) = none := by decide +kernel

theorem witness_KeysAndPatches :
    Runs (st (asks ready 0x22 (wof 7 :: words 13))) .a 0x22 0 (wof ((levelIx .operate).val * 2 ^ 8 + (7 : Fin 8).val) :: words 13) [] ∧
    Runs (st (asks ready 0x22 (wof (2 ^ 19 + 256) :: words 13))) .a 0x22 0 (wof (2 ^ 19 + (levelIx .service).val * 2 ^ 8 + (0 : Fin 8).val) :: words 13) [] ∧
    Runs (st (asks ready 0x24 [0, 1])) .a 0x24 0 [0, 1] [] ∧
    (∀ ws : List Word, Runs (st (asks ready 0x23 (wof 63 :: ws))) .a 0x23 0 (wof (63 : Fin 64).val :: ws) []) ∧
    Runs (st (asks ready 0x23 (wof (2 ^ 19) :: words 10))) .a 0x23 0 (wof (2 ^ 19 + (0 : Fin 64).val) :: words 10) [] ∧
    ((ready.sess.slotAt .operate 7).programmed = false ∧ (ready.sess.slotAt .operate 0).programmed = true) ∧
    ((ready.sess.slotAt .service 0).revoked = false ∧
      ∀ k, ((ready.sess.slotAt .service k).programmed = true ∧ (ready.sess.slotAt .service k).revoked = false) → k = 0) ∧
    0 < fld (1 : Word) 3 0 ∧ fld ((words 9 ++ [wof (crc16 (words 9))]).getD 9 0) 15 0 = crc16 (words 9) ∧
    fld ((words 10).getD 9 0) 15 0 ≠ crc16 (words 9) :=
  ⟨runs_asks _ _ _ (by decide), runs_asks _ _ _ (by decide), runs_asks _ _ _ (by decide), fun _ => runs_asks _ _ _ (by decide),
    runs_asks _ _ _ (by decide), by decide, by decide, by decide, by decide +kernel, by decide +kernel⟩

theorem witness_RegisterWrites :
    (∀ p ∈ plainWords, ready.asleep p.1 = false ∧ ready.failedBlock p.1 = false) ∧ Works (st ready) .a ∧
    (∀ v : Word, Runs (st (asks ready 0x05 [own 0x3C00, v])) .a 0x05 0 [own 0x3C00, v] []) ∧
    (∀ off ∈ [0x040D, 0x0409, 0x240C, 0x2002, 0x0401, 0x0C02], ready.asleep off = false ∧ ready.failedBlock off = false) :=
  ⟨by decide, ⟨by decide, by decide⟩, fun _ => runs_asks _ _ _ (by decide), by decide⟩

theorem witness_Reads :
    (∀ ws, Runs (st (asks ready 0x04 ws)) .a 0x04 0 ws []) ∧ (0x2402, 0xFFFFF) ∈ plainWords ∧ ready.asleep 0x2402 = false ∧
    ready.failedBlock 0x2402 = false ∧ fld (0 : Word) 3 0 = 0 ∧ fld (15 : Word) 3 0 ≠ 0 ∧
    (fld (wof (7 * 2 ^ 17)) 19 17 = 7 ∧ fld (wof (7 * 2 ^ 17)) 19 17 ≠ 6) ∧
    ((5 : Die).val = fld (wof (5 * 2 ^ 17)) 19 17 ∧ (st ready).variant.hasFv 5 = true) ∧
    (∀ d : Die, d.val = fld (wof (5 * 2 ^ 17)) 19 17 → (st2 ready).variant.hasFv d = false) ∧
    { ready with sess := { ready.sess with level := .operate } }.sess.level ≠ .open ∧ ready.sess.level = .open :=
  ⟨fun _ => runs_asks _ _ _ (by decide), by decide, by decide, by decide, by decide, by decide, by decide, by decide, by decide, by decide,
    by decide⟩

theorem witness_Staging :
    (∀ ws, Runs (st (asks ready 0x06 ws)) .a 0x06 0 ws []) ∧ ready.stage.st ≠ .armed ∧
    { ready with stage := { ready.stage with st := .armed } }.stage.st = .armed ∧
    (Works (st ready) .a ∧ fld (ready.rd 0x3C00) 6 0 = 0 ∧ ready.domOn 0 = true ∧ wbit (ready.rd 0x3C00) 19 = false ∧
      (ready.comp 0).copyTbl = none ∧ (2039 : Fin 2048).val < 2040 ∧ 2040 ≤ (2040 : Fin 2048).val) ∧
    wbit ({ ready with regs := [(0x3C00, 0x80000#20)] }.rd 0x3C00) 19 = true := by
  refine ⟨fun _ => runs_asks _ _ _ (by decide), by decide, by decide, ?_, by decide⟩
  unfold Works; decide

/-- ACQ_AT 5 184 is the first crossing in range at 5 120; one with a staged FULL forme; one that runs from 5 184 on and stops at 6 000. -/
theorem witness_StartStopAndClockSelect :
    (let b := { ready with regs := [(0x2402, 0#20), (0x2403, 5184#20)], loader := { ready.loader with live := true } }
     Works (st b) .a ∧ b.acq.phase = .idle ∧ b.power.dev = .ready ∧ b.loader.live = true ∧ b.fullArmed = false) ∧
    (let b := { ready with loader := { ready.loader with live := true }, stage := { ready.stage with st := .armed, formeIn := true } }
     Works (st b) .a ∧ b.fullArmed = true) ∧
    (Works (st ready) .a ∧ ready.loader.live = false ∧ ready.power.ctrlIn ≠ (1#2).toNat ∧ (1#2 : BitVec 2) ≠ 3) ∧
    (Works (st running) .a ∧ running.power.dev ≠ .ready ∧ { running with acq := { running.acq with phase := .run } }.acq.phase = .run ∧
      { running with acq := { running.acq with phase := .stopPend } }.acq.phase = .stopPend) := by
  unfold Works; decide

theorem witness_StartStopAndClockSelect_at :
    (∃ b : Bn, b.now = 5120 ∧ b.rdXc 0x2402 = 5184 ∧ ¬ (b.rdXc 0x2402 < b.now + 64 ∨ b.now + 2 ^ 20 < b.rdXc 0x2402) ∧
      ¬ b.rdXc 0x2402 ≤ b.acq.s) ∧
    (∃ b : Bn, b.now = 5120 ∧ b.rdXc 0x2402 = 5183 ∧ b.rdXc 0x2402 < b.now + 64) :=
  ⟨⟨ready.wrXc 0x2402 5184, by decide, by decide, by decide, by decide⟩, ⟨ready.wrXc 0x2402 5183, by decide, by decide, by decide⟩⟩

/-- A unit with a staged word, PROVED or ARMED as asked. -/
def banked (x : StageState) : Bn :=
  { ready with stage := { ready.stage with st := x, words := [(0x2404, 1#20)], armedN := 5160 } }

theorem witness_Proof :
    (∀ b ∈ [ready, banked .staging, banked .armed, minimal], Runs (st (asks b 0x07 [63])) .a 0x07 0 [63] []) ∧
    minimal.power.dev = .minimal ∧ (banked .armed).stage.st = .armed ∧ (ready.stage.st = .empty ∧ ready.loader.st = .empty) ∧
    ((banked .staging).power.dev ≠ .minimal ∧ (banked .staging).stage.st = .staging ∧ (banked .staging).loader.st = .empty ∧
      (banked .staging).stage.fvDies = [] ∧ (banked .staging).twinRule (st (banked .staging)).variant = false) := by
  refine ⟨?_, by decide, by decide, by decide, by decide⟩
  intro b h
  simp only [List.mem_cons, List.not_mem_nil, or_false] at h
  rcases h with h | h | h | h <;> subst h <;> exact runs_asks _ _ _ (by decide)

/-- An impress for 5 184, in range at 5 120, and one for 5 183. -/
theorem witness_ImpressAndDiscard :
    (∀ b ∈ [ready, banked .staging, banked .proved, banked .armed, minimal], ∀ op ws, Runs (st (asks b op ws)) .a op 0 ws []) ∧
    (xcOf 5184 0 0 = 5184 ∧ (banked .proved).now + 64 ≤ 5184 ∧ 5184 ≤ (banked .proved).now + 2 ^ 20 ∧
      ¬ ((banked .proved).now + 64 ≤ xcOf 5183 0 0)) ∧
    ((banked .proved).stage.formeIn = false ∧ (banked .proved).stage.fvDies = [] ∧ (banked .proved).acq.phase = .idle) ∧
    (let b := { banked .proved with stage := { (banked .proved).stage with formeIn := true }, acq := { ready.acq with phase := .run } }
     b.stage.formeIn = true ∧ b.loader.cls = 0 ∧ b.acq.phase ≠ .idle) ∧
    (let b := { cold with stage := { (banked .proved).stage with fvDies := [(0, 0)] } }
     b.stage.fvDies ≠ [] ∧ b.holds = false) ∧
    ((banked .armed).stage.armedN = 5160 ∧ ¬ (banked .armed).stage.armedN < (banked .armed).now + 40 ∧
      { banked .armed with stage := { (banked .armed).stage with armedN := 5159 } }.stage.armedN < (banked .armed).now + 40) := by
  refine ⟨?_, by decide, by decide, by decide, by decide, by decide⟩
  intro b h op ws
  simp only [List.mem_cons, List.not_mem_nil, or_false] at h
  rcases h with h | h | h | h | h <;> subst h <;> exact runs_asks _ _ _ (by decide)

/-- A unit that has taken two words of an image. -/
def loading : Bn := { ready with loader := { ready.loader with st := .loading, img := [0, 0] } }

theorem witness_FormeLoading :
    (∀ b ∈ [ready, loading, minimal], ∀ op ws, Runs (st (asks b op ws)) .a op 0 ws []) ∧
    ((2 : Word).toNat = loading.loader.img.length ∧ loading.loader.fits [5] = true ∧ (3 : Word).toNat ≠ loading.loader.img.length) ∧
    ((0 : Word).toNat = 0 ∧ (banked .armed).stage.st = .armed ∧ Loader.empty.fits (words 13) = true) ∧
    ready.loader.st = .empty ∧ loading.loader.st = .loading ∧
    { ready with loader := { ready.loader with st := .loaded } }.loader.st ≠ .empty ∧
    { ready with loader := { ready.loader with st := .proved } }.loader.st = .proved ∧
    Works (st loading) .a ∧ loading.power.dev ≠ .minimal := by
  refine ⟨?_, by decide, by decide, by decide, by decide, by decide, by decide, ⟨by decide, by decide⟩, by decide⟩
  intro b h op ws
  simp only [List.mem_cons, List.not_mem_nil, or_false] at h
  rcases h with h | h | h <;> subst h <;> exact runs_asks _ _ _ (by decide)

/-- Queue 63 at 5 184, queue 47, 5 183; the whole galley at rate 32, rate 33, an address beyond it. -/
theorem witness_FlushAndScrubPackets :
    (∀ op ws, Runs (st (asks ready op ws)) .a op 0 ws []) ∧
    (fld (63 : Word) 5 0 = 63 ∧ ¬ (xcOf 5184 0 0 < ready.now + 64 ∨ ready.now + 2 ^ 20 < xcOf 5184 0 0 ∨ (36 ≤ 63 ∧ 63 ≤ 47))) ∧
    (36 ≤ fld (47 : Word) 5 0 ∧ fld (47 : Word) 5 0 ≤ 47) ∧ xcOf 5183 0 0 < ready.now + 64 ∧
    ¬ ((0x3FFFF : Word).toNat < (0 : Word).toNat ∨ 0x3FFFF < (0x3FFFF : Word).toNat ∨ fld (32 : Word) 5 0 = 0 ∨ 32 < fld (32 : Word) 5 0) ∧
    32 < fld (33 : Word) 5 0 ∧ 0x3FFFF < (0x40000 : Word).toNat ∧ ready.gal.scrub = none ∧
    { ready with gal := { ready.gal with scrub := some ⟨0, 9, 1⟩ } }.gal.scrub.isSome = true :=
  ⟨fun _ _ => runs_asks _ _ _ (by decide), by decide, by decide, by decide, by decide, by decide, by decide, by decide, by decide⟩

theorem witness_StatsAndTapPackets :
    (∀ op ws, Runs (st (asks ready op ws)) .a op 0 ws []) ∧ (∀ op ws, Runs (st (asks cold op ws)) .a op 0 ws []) ∧
    (let b := { ready with loader := { ready.loader with live := true }, regs := [(0x4051, 0x108#20)] }
     b.power.dev ≠ .minimal ∧ b.loader.live = true ∧ (b.rd 0x4051).toNat = 0x108) ∧ ready.loader.live = false ∧
    fld (0 : Word) 15 0 = 0 ∧ fld (1 : Word) 15 0 ≠ 0 ∧
    ((ready.queue 33).skip = false ∧ ready.visible 33 = [] ∧ (ready.queue 33).count < 2 ^ 16) ∧
    ((ready.queue 63).skip = false ∧ ready.visible 63 = [] ∧ 48 + fld (15 : Word) 3 0 = 63) ∧
    ((5 : Die).val = fld (wof (5 * 2 ^ 14)) 16 14 ∧ (st ready).variant.hasFv 5 = true ∧ ready.holds = true ∧ cold.holds = false) :=
  ⟨fun _ _ => runs_asks _ _ _ (by decide), fun _ _ => runs_asks _ _ _ (by decide), by decide, by decide, by decide, by decide, by decide,
    by decide, by decide⟩

theorem witness_TimePackets :
    (∀ op ws, Runs (st (asks ready op ws)) .a op 0 ws []) ∧ ready.time.step = 0 ∧ { ready with time := { ready.time with step := 2 } }.time.step ≠ 0 ∧
    { ready with time := { ready.time with holdover := true } }.time.holdover = true ∧
    (ready.now + 64 ≤ xcOf 5184 0 0 ∧ xcOf 5184 0 0 ≤ ready.now + 2 ^ 20 ∧ quadOk 0 0 0 = true) ∧ quadOk 0xFFFFF 0 0 = false ∧
    (-5368709 ≤ (5 * 2 ^ 20 + 125829 : Int) ∧ (5 * 2 ^ 20 + 125829 : Int) ≤ 5368709 ∧ ready.now + 4 ≤ xcOf 5124 0 0) ∧
    (ready.domOn 166 = true ∧ ready.domOn 167 = true ∧ ready.hkc.urg = [] ∧ ready.hkc.conv = none) ∧
    ((ready.setDom 166 ⟨.failed, false, true, 1, 0, 0⟩).dom 166).power = .failed ∧ (ready.setDom 167 Dom.offDom).domOn 167 = false ∧
    { ready with hkc := { ready.hkc with urg := [(2, 63)] } }.hkc.urg.any (fun r => r.2 == fld (63 : Word) 5 0) = true ∧
    4 ≤ { ready with hkc := { ready.hkc with urg := [(0, 1), (0, 2), (1, 3), (2, 4)] } }.hkc.urg.length :=
  ⟨fun _ _ => runs_asks _ _ _ (by decide), by decide, by decide, by decide, by decide, by decide, by decide, by decide, by decide, by decide,
    by decide, by decide⟩

/-- Domain 169 is the last; 127 the last compositor; 135 the last case. -/
theorem witness_PowerPackets :
    (∀ op ws, Runs (st (asks ready op ws)) .a op 0 ws []) ∧
    (ready.stage.st ≠ .armed ∧ ready.lease.join.code ≠ 2 ∧ ready.lease.join.y = none ∧ ready.lease.ho = none ∧ ready.gal.scrub = none ∧
      ready.power.holdEnd = none ∧ ready.power.entry = none) ∧ (banked .armed).stage.st = .armed ∧
    (ready.xc ≤ 4000 ∧ { ready with power := { ready.power with holdEnd := some 4000 } }.power.holdEnd = some 4000) ∧
    169 < fld (170 : Word) 7 0 ∧ fld (169 : Word) 7 0 ≤ 169 ∧ (ready.dom 169).power = .on ∧
    ((ready.dom 127).power = .off ∧ (ready.dom 135).power = .off ∧ (ready.dom 128).power = .on ∧ (ready.dom 15).power = .off ∧
      128 + 15 / 16 = 128 ∧ 128 + 127 / 16 = 135) ∧
    ((ready.setDom 135 ⟨.failed, false, true, 1, 0, 0⟩).dom 135).power = .failed ∧ ((minimal.dom 127).power = .off ∧ minimal.power.dev = .minimal) :=
  ⟨fun _ _ => runs_asks _ _ _ (by decide), by decide, by decide, by decide, by decide, by decide, by decide, by decide, by decide, by decide⟩

theorem witness_ResetAndTestPackets :
    (∀ op ws, Runs (st (asks ready op ws)) .a op 0 ws []) ∧ (∀ op ws, Runs (st (asks cold op ws)) .a op 0 ws []) ∧
    (∀ op ws, Runs (st2 (asks ready op ws)) .a op 0 ws []) ∧
    ((st2 ready).variant.hasFv 5 = false ∧ (st ready).variant.hasFv 5 = true ∧ cold.holds = false ∧ ready.holds = true ∧
      ((st ready).fv 5).powered = false ∧ ((stf fvUp).fv 0).powered = true) ∧
    (1 < (0x02#8).toNat ∧ (0x0F#8).toNat < 0x10 ∧ 0x16 < (0x17#8).toNat) ∧ ((4 : Lane).val ≤ 4 ∧ 5 ≤ (5 : Lane).val) ∧
    (ready.power.dev = .ready ∧ ready.acq.phase = .idle) ∧ ¬ (running.power.dev = .ready ∧ running.acq.phase = .idle) :=
  ⟨fun _ _ => runs_asks _ _ _ (by decide), fun _ _ => runs_asks _ _ _ (by decide), fun _ _ => ⟨rfl, rfl, rfl, rfl⟩, by decide, by decide,
    by decide, by decide, by decide⟩

theorem witness_InfoAndRolePackets :
    (∀ op ws, Runs (st (asks cold op ws)) .a op 0 ws []) ∧ (∀ op ws, Runs (st (asks minimal op ws)) .a op 0 ws []) ∧
    (∀ op ws, Runs (st (asks (unit .ready .shadow) op ws)) .a op 0 ws []) ∧ (minimal.power.dev = .minimal ∧ (st2 ready).variant = .sln2) ∧
    ¬ (cold.power.dev = .minimal ∨ (st cold).variant = .sln2) ∧ 2 ≤ (2#8).toNat ∧ cold.lease.role = .cold ∧ ready.lease.role = .active ∧
    (unit .ready .shadow).lease.role = .shadow :=
  ⟨fun _ _ => runs_asks _ _ _ (by decide), fun _ _ => runs_asks _ _ _ (by decide), fun _ _ => runs_asks _ _ _ (by decide), by decide, by decide,
    by decide, by decide, by decide, by decide⟩

/-- A unit with a live forme that uses no compositor: its transfer set has 66 doubles. -/
def formed : Bn := { ready with
  loader := { ready.loader with live := true }, regs := (List.range' 0x4043 7).map (fun o => (o, 0#20)) }

theorem witness_TransferSetPackets :
    (∀ b ∈ [formed, ready], ∀ op ws, Runs (st (asks b op ws)) .a op 0 ws []) ∧
    (formed.power.dev ≠ .minimal ∧ formed.acq.phase = .idle ∧ formed.loader.live = true ∧ formed.lease.join.code ≠ 2 ∧
      formed.lease.join.y = none) ∧ ready.loader.live = false ∧
    (formed.useMask = [] ∧ formed.transferSet.length = 66 ∧ 65 < formed.transferSet.length) ∧
    ((0 : Word).toNat = formed.saved.length ∧ (dhi ((toDoubles [66, 0]).getD 0 0)).toNat = 66 ∧ (toDoubles [66, 0]).length ≤ 66 ∧
      (toDoubles [66, 0]).length < 66 ∧ (dhi ((toDoubles [65, 0]).getD 0 0)).toNat < 66) := by
  refine ⟨?_, by decide, by decide, by decide +kernel, by decide⟩
  intro b h op ws
  simp only [List.mem_cons, List.not_mem_nil, or_false] at h
  rcases h with h | h <;> subst h <;> exact runs_asks _ _ _ (by decide)

/-! ## Witnesses: the compositor array -/

/-- The fields of an instruction that always executes, with an immediate of 1. -/
def flds : IFields := ⟨0, false, 2, 0, 1, 1⟩

/-- A unit in RUN whose compositor 0 is in the use mask and holds the instruction of opcode `op` in cycle `c` of its one crossing. -/
def issuing (op c : Nat) : Bn :=
  { running with
    loader := { running.loader with live := true }
    regs := [(0x4040, 0#20), (0x4043, 1#20)]
    arr := { running.arr with comps := [(0, { Comp.zero with insLive := [(c, insWord op flds)] })] } }

/-- Whether an instruction issues and its condition holds. -/
def goes : Issue → Bool
  | .go _ _ => true
  | _ => false

/-- Cycles 0 and 30 are the first and the last that issue. -/
theorem witness_CompositorIssue :
    (let b := issuing 0x38 30
     let place := 32 * (b.now % b.period) + 30
     b.power.dev = .run ∧ b.power.clkWait = false ∧ b.used 0 = true ∧ b.domOn 0 = true ∧ b.domOn (128 + 0 / 16) = true ∧ 30 ≠ 31 ∧
       b.arr.cursor < 128 * 30 + 0 + 1 ∧ mget (b.comp 0).flips (memKey 2 (b.comp 0).insBank (place / 2)) 0 = 0 ∧
       mget (b.comp 0).insLive place 0 = insWord 0x38 flds) ∧
    (flds.psense = false ∧ flds.psel = 0) ∧ ((0x38, Instr.rdsys .a 0 30 flds) ∈ issued .a 0 30 flds) ∧
    (let f : IFields := { flds with psense := true }
     f.psel = 0 ∧ ¬ Comp.zero.p.getLsbD 0 = true) ∧
    mget ((issuing 0x38 30).comp 0).insLive 30 0 ≠ insWord 0x01 flds ∧ ready.power.dev ≠ .run ∧ (31 : Cyc).val = 31 := by decide +kernel

theorem witness_ResultsLand : Comp.zero.flight = [] ∧ 5 < 6 ∧ (Dest.reg 0 1).isPort = false ∧ (Dest.xin 3 0).isPort = true := by decide

/-- For every opcode there is a unit in which it goes, in cycle 0: the premise of the results of every instruction. -/
theorem goes_everywhere : ∀ op ∈ List.range 64, goes ((issuing op 0).issue 0 0 (fun o => o == op) flds) = true := by decide +kernel

theorem goes_witness (op : Nat) (h : op ∈ List.range 64) : ∃ b k, Goes (st (issuing op 0)) .a 0 0 op flds b k := by
  have g := goes_everywhere op h
  unfold Goes
  rw [st_bn]
  cases hi : (issuing op 0).issue 0 0 (fun o => o == op) flds with
  | no b => rw [hi] at g; exact absurd g (by simp [goes])
  | fails b => rw [hi] at g; exact absurd g (by simp [goes])
  | go b k => exact ⟨b, k, rfl⟩

theorem witness_CompositorFieldsAndPredicates : ∃ b k, Goes (st (issuing 0x1F 0)) .a 0 0 0x1F flds b k := goes_witness 0x1F (by decide)

theorem witness_CompositorArithmetic : (∃ b k, Goes (st (issuing 0 0)) .a 0 0 (0#6).toNat flds b k) ∧
    (∃ b k, Goes (st (issuing 0x2D 0)) .a 0 0 (0x2D#6).toNat flds b k) ∧ (∃ b k, Goes (st (issuing 0x3F 0)) .a 0 0 (0x3F#6).toNat flds b k) ∧
    ∃ b k, Goes (st (issuing 0x28 0)) .a 0 0 0x28 flds b k :=
  ⟨goes_witness 0 (by decide), goes_witness 0x2D (by decide), goes_witness 0x3F (by decide), goes_witness 0x28 (by decide)⟩

/-- The ports of the case are free, the ring link too, and no codeword is damaged; destination 127 lies in case 7. -/
theorem witness_CompositorPorts : (∀ op ∈ [0x29, 0x2A, 0x30, 0x31, 0x32, 0x33, 0x34, 0x35, 0x36, 0x37, 0x38],
      ∃ b k, Goes (st (issuing op 0)) .a 0 0 op flds b k) ∧
    (let b := issuing 0x34 0
     mget b.arr.gport 0 0 ≠ b.cycle + 1 ∧ (∀ l ∈ b.arr.links, l.1 = linkId 0 true → l.2.1 ≠ b.cycle) ∧
       mget (b.comp 0).flips (memKey 1 (b.comp 0).tblBank (2047 / 4)) 0 = 0) ∧
    (let b := (issuing 0x34 0).mapArr (fun a => { a with gport := mput a.gport 0 ((issuing 0x34 0).cycle + 1) 0 })
     mget b.arr.gport 0 0 = b.cycle + 1) ∧ (127 / 16 ≠ 0 / 16) := by
  refine ⟨fun op h => goes_witness op ?_, by decide, by decide, by decide⟩
  simp only [List.mem_cons, List.not_mem_nil, or_false] at h
  rcases h with h | h | h | h | h | h | h | h | h | h | h <;> subst h <;> decide

theorem witness_ArrayMaintenance :
    ((st ready).hasBn .a = true ∧ ready.power.dev = .ready ∧ ready.power.clkWait = false ∧ ready.domOn 0 = true ∧
      (ready.xc, 0) ∉ ready.arr.probeBad ∧ ready.domOn 127 = false) ∧
    (2 ≤ ready.xc ∧ ready.arr.probeRec = none ∧ ready.job = none ∧ ready.loader.live = false) ∧
    (let k := { Comp.zero with flips := [(memKey 1 false 0, 1)] }
     let b := ready.setComp 0 k
     b.arr.scrubPos < 512 ∧ mget (b.comp 0).flips (memKey 1 false b.arr.scrubPos) 0 = 1 ∧
       (rsRead (memAddr 1 0 false 0) 0 1).1 = .corrected) := by decide +kernel

/-! ## Witnesses: the front-end dies -/

/-- Whether the high discriminator of channel 0 is selected and which one is not masked, as the channel word is at reset. -/
theorem witness_HitCapture_edges :
    Clocked (stf fvUp) 0 ∧ fvUp.chanOn 0 = true ∧ fvUp.window = none ∧ (fvUp.chan 0).phase = .idle 0 ∧ (fvUp.chan 0).ring = none ∧
    fvUp.safe = false ∧ fvUp.wasSafe = false ∧ fvUp.sw = none ∧ 0 ≤ 8 * fvUp.xc + (0 : Edge).val ∧
    8 * (fvUp.xc + b2n false) + (1 : Edge).val = 8 * fvUp.xc + (0 : Edge).val + 1 ∧
    8 * (fvUp.xc + b2n true) + (1 : Edge).val = 8 * fvUp.xc + (7 : Edge).val + 2 ∧
    (let f := { fvUp with regs := [(0x1000, 0x40#20)] }
     (if wbit (f.inForce (0x1000 + 2 * 0)) 6 then Disc.hi else .lo) = .hi ∧ wbit (f.inForce (0x1000 + 2 * 0)) 4 = false) ∧
    { fvUp with safe := true }.safe = true := by
  unfold Clocked; decide

/-- A ring of the low discriminator in channel 0, its captures at phases 7, 0 and 12. -/
def ring0 : Ring := ⟨.lo, 16384, 16385, 183, 480, 780, some 384, false, false, false, false⟩

/-- An FV die whose channel 0 is in this phase with this ring. -/
def ringing (p : ChPhase) (r : Ring) : Fv := { fvUp with chans := [(0, ⟨p, false, true, some r⟩)] }

theorem witness_HitCapture :
    (let f := { ringing .running ring0 with regs := [(0x1000, 0#20)] }
     Clocked (stf f) 0 ∧ (f.chan 0).phase = .running ∧ (f.chan 0).ring = some ring0 ∧ ring0.disc = .lo ∧ f.window = none ∧ f.chanOn 0 = true ∧
       f.frame = none ∧ f.notices = [] ∧ f.sw = none ∧ wbit (f.inForce (0x1000 + 2 * 0)) 6 = false) ∧ (31 : Fin 32).val ≠ 0 := by
  unfold Clocked; decide

theorem witness_HitDelivery :
    (let f := ringing (.stopped 16386) ring0
     Clocked (stf f) 0 ∧ f.sw = none ∧ (f.ready 0 16386).length = 1) ∧
    (let r : Ring := { ring0 with high := true }
     let f := { fvUp with trays := Vector.replicate 4 { TraySt.empty with pipe := [⟨0, 16390, r, false⟩] } }
     Clocked (stf f) 0 ∧ (f.tray 0).pipe = ⟨0, 16390, r, false⟩ :: [] ∧ 16390 ≤ 8 * f.xc + (6 : Edge).val ∧ 272 ≤ ((r.v3 : Int) - r.v2) ∧
       ((r.v3 : Int) - r.v2) ≤ 360 ∧ (2 * ((r.v2 : Int) - r.v1) - ((r.v3 : Int) - r.v1)).natAbs ≤ fld (f.rd 0x1C00) 5 0 ∧
       0 ≤ ((r.e1 % 8 : Nat) : Int) * (r.v3 - r.v2) - (r.v1 + (2 * ((r.v2 : Int) - r.v1) - ((r.v3 : Int) - r.v1))) ∧
       f.scaleFrom ≤ r.e1 / 8 ∧ f.discards = [] ∧ (f.tray 0).hits.length < 64 ∧ r.high = true) ∧
    (let f := { fvUp with chans := [(0, ⟨.taken 16384, false, false, some ring0⟩)] }
     (f.chan 0).phase = .taken 16384 ∧ 16384 ≤ 8 * f.xc + (0 : Edge).val ∧ (f.chan 0).loUp = false ∧ (f.chan 0).hiUp = false) ∧
    ((ringing (.taken 16384) ring0).chan 0).loUp = true := by
  unfold Clocked; decide +kernel

/-- A frame of crossing 1 023 modulo 4 096, which is that of the counter 5 119. -/
def frame0 : FvFrame := ⟨dof (1023 * 2 ^ 28 + 5 * 2 ^ 24) :: List.replicate 30 0, 0, 2047, []⟩

/-- The same package with a frame of FV die 0 on the wires. -/
def stx (b : Bn) (f : Fv) : State := (st b).setFv 0 f

theorem witness_LigatureFrames_send :
    (Clocked (stf fvUp) 0 ∧ fvUp.sw = none ∧ fvUp.switchTo (stf fvUp).variant = none ∧ fvUp.renumber = false ∧ fvUp.oldVals = [] ∧
      fvUp.num < 4096 ∧ fvUp.epoch < 16 ∧ fvUp.named.getD ((fvUp.num + 1) % 4096) < 4096) ∧
    { fvUp with num := 4095 }.named.getD (({ fvUp with num := 4095 }.num + 1) % 4096) = 0 ∧
    (let x : Train := ⟨2048, 0, 4, [], 0⟩
     { fvUp with train := some x }.train = some x ∧ x.next = fvUp.xc) ∧
    (let r : FvReq := ⟨.a, 0, 5, 0, 0x1000, 0, 2046, false⟩
     let f := { fvUp with reqs := [r] }
     Clocked (stf f) 0 ∧ f.served ≠ some f.xc ∧ f.replies.length < 8 ∧ f.reqs = r :: [] ∧ r.epoch = f.epoch ∧ r.op = 0 ∧
       { r with epoch := 15 }.epoch ≠ f.epoch ∧ { r with op := 1, auth := true }.auth = true ∧ { r with op := 2 }.auth = false) := by
  unfold Clocked; decide

set_option maxRecDepth 4000 in
/-- A frame with one bit of its CRC turned. -/
theorem witness_LigatureFrames_crc : (let w := flipped frame0.sealed [(31, 256)]
    crc32 (dblBits (w.take 31) ++ bitsMsb (w.getD 31 0).toNat 8) ≠ bitsOf (w.getD 31 0).toNat 39 8) := by decide +kernel

theorem witness_LigatureFrames :
    (let s := stx running { fvUp with prevFrame := some frame0 }
     let b := s.bn .a
     s.hasBn .a = true ∧ s.variant.hasFv 0 = true ∧ b.domOn 159 = true ∧ b.power.clkWait = false ∧ (b.ligIn 0).judged ≠ some b.xc ∧
       (s.fv 0).completed (b.time.prev % 4096) (b.ligIn 0).lastIdx = some frame0 ∧ frame0.beats.length = 31 ∧ frame0.status < 256 ∧
       bitsOf (frame0.beats.getD 0 0).toNat 39 28 = b.time.prev % 4096) ∧
    (let b := (running.setLig 0 { LigIn.dead with judged := some 4000, verdict := 0, beats := frame0.beats }).setDom 15 ⟨.on, true, false, 0, 0, 0⟩
     b.power.dev = .run ∧ (b.ligIn 0).judged = some b.xc ∧ arrivalOf (st b).variant 0 0 = some (0, 15, 24) ∧
       arrivalOf (st b).variant 0 1 = some (0, 0, 12) ∧ b.domOn (16 * 0 + 15) = true ∧ b.domOn 0 = true ∧ b.domOn (128 + 0) = true ∧
       (b.ligIn 0).verdict = 0 ∧ { b with acq := { b.acq with phase := .run } }.acq.inRun (b.now - 1 - 0) = true) ∧
    (let s := stx { running with stage := { running.stage with st := .armed, armedN := 5152, armedTag := 63 } } fvUp
     let b := s.bn .a
     (b.ligIn 0).sentAt ≠ some b.xc ∧ b.nextReq 0 = none ∧ (s.fv 0).powered = true ∧ ((s.fv 0).port .a).refOn = true ∧ b.stage.armedTag < 64 ∧
       BnId.a = (s.fv 0).refPort ∧ b.announces = true ∧ { fvUp with num := 1023 }.num ≠ b.now % 4096) ∧
    (let r : BnReq := ⟨0, 0, 0x1000, 0, .job, 3936, some 3936, 0, 0⟩
     let b := { ready with reqs := [r], job := some (.read 0 0 0x1000 1 [] false) }
     b.reqs = r :: [] ∧ r.die = 0 ∧ r.sent = some 3936 ∧ 3936 + 64 ≤ b.xc ∧ r.owner = .job ∧ b.job = some (.read 0 0 0x1000 1 [] false) ∧
       { r with owner := .none }.owner = .none) := by decide +kernel

theorem witness_FvReference :
    (Clocked (stf fvUp) 0 ∧ fvUp.silent < 1024 ∧ Clocked (stf { fvUp with silent := 1024 }) 0) ∧
    ({ ready with power := { ready.power with clkLossOut := true } }.power.clkLossOut = true ∧ fvUp.refPort = .a) ∧
    ((fvUp.port .a).refOn = true ∧ (fvUp.port .b).refOn = false ∧ ({ fvUp with portB := fvUp.portA }.port .b).refOn = true) ∧
    (let f := { ringing .running ring0 with sw := some ⟨2047, .b, false⟩ }
     Clocked (stf f) 0 ∧ f.sw = some ⟨2047, .b, false⟩ ∧ f.xc = 2047 + 1 ∧ (f.chan 0).phase = .running ∧ (f.chan 1).phase ≠ .running) ∧
    ({ fvUp with scalePend := some 5 }.scalePend = some 5 ∧ fvUp.num % 1024 = 0 ∧ { fvUp with num := 1023 }.num % 1024 ≠ 0) ∧
    (let f := { fvUp with armed := some (63, 1024) }
     f.armed = some (63, 1024) ∧ f.num = 1024 ∧ f.staged = [] ∧ { f with staged := [(0x1000 + 2 * 0, 5)] }.staged = [(0x1000 + 2 * (0 : Chan).val, 5)] ∧
       (f.dom (64 + (0 : Chan).val / 16)).power = .on ∧ { f with num := 1025 }.num ≠ 1024) ∧
    (Reaches (stf fvUp) .b 0 ∧ (unit .ready .shadow).power.pllLock = true ∧ (fvUp.port .b).refOn = false ∧ (fvUp.port .a).refOn = true ∧
      ({ fvUp with portA := .dead }.port .a).refOn = false) := by
  unfold Clocked Reaches; decide

theorem witness_FvReference_return :
    (let s := stx ready { fvUp with portA := .dead }
     Reaches s .a 0 ∧ (s.bn .a).power.pllLock = true ∧ (s.bn .a).power.clkWait = false ∧ ((s.fv 0).port .a).refOn = false) := by
  unfold Reaches; decide

/-- Domain 131 is the last that can be asked for; 128 has a parent, 132, that is always asked for; 0 has 64, which is not at first. -/
theorem witness_FvAccesses :
    (Reaches (stx cold fvUp) .a 0 ∧ ¬ Governs (stx cold fvUp) .a 0) ∧ (Reaches (stx ready fvUp) .a 0 ∧ Governs (stx ready fvUp) .a 0) ∧
    (wbit (fvUp.rd 0x080A) 19 = false ∧ fld (fvUp.rd 0x080A) 17 16 = 0 ∧ (1#16 : BitVec 16) ≠ 0) ∧
    (wbit ({ fvUp with regs := [(0x080A, 0x80001#20)] }.rd 0x080A) 19 = true) ∧
    (let f := { fvUp with safe := true }
     f.safe = true ∧ f.silent < 1024 ∧ (f.port .a).clkLoss = false ∧ (f.port .a).refOn = true ∧ 1024 ≤ { f with silent := 1024 }.silent) ∧
    (132 ≤ (132 : Fin 135).val ∧ fvParent 131 = some 132 ∧ fvUp.req .sln8 132 = true ∧ fvParent 0 = some 64 ∧
      { fvUp with regs := [(0x2440, 0#20)] }.req .sln8 64 = false) ∧
    (let f := { fvUp with window := some (1984, 2048) }
     f.window = some (1984, 2048) ∧ 2048 ≤ f.xc) ∧
    (fld (fvUp.rd 0x1C04) 9 0 = 0 ∧ (fvUp.dom 64).power = .on ∧ wbit ({ fvUp with regs := [(0x1C04, 0x400#20)] }.rd 0x1C04) 10 = true ∧
      wbit (fvUp.rd 0x1C04) 10 = false) := by
  unfold Reaches Governs; decide

/-! ## Witnesses: lanes, boundaries, runs -/

theorem witness_LaneDetectors :
    (LaneOn (st ready) .a 4 ∧ (ready.lane 4).los = false ∧ (ready.lane 4).blockLock = true) ∧ LaneOn (st2 ready) .a 4 ∧ LaneOn (st ready) .a 6 ∧
    (LaneOn (st ready) .a 0 ∧ (0 : Lane).val ≠ 4 ∧ (0 : Lane).val ≠ 6 ∧ (ready.lane 0).st ≠ .idle) ∧
    (let x : LaneSt := { LaneSt.rest with goodRun := 63 }
     x.los = false ∧ x.blockLock = false ∧ 63 ≤ x.goodRun ∧ x.lol = true ∧ x.st = .idle ∧ { x with goodRun := 62 }.goodRun < 63 ∧
       { x with los := true }.los = true) ∧
    16 ≤ ((false :: (List.replicate 15 false ++ List.replicate 48 true)).take 64).countP (fun v => !v) ∧
    (let x : LaneSt := { laneUp with st := .training, trainEnd := 4000 }
     x.st = .training ∧ x.trainEnd ≤ ready.xc ∧ ready.xc < { x with trainEnd := 4001 }.trainEnd) ∧
    (let b := unit .sleep .none
     (st b).hasBn .a = true ∧ b.power.dev = .sleep ∧ b.power.bursts = 0 ∧ true = decide (b.power.bursts % 2 = 0) ∧
       { b with power := { b.power with bursts := 14 } }.power.bursts = 14) := by
  unfold LaneOn; decide

/-- Lane 0 with its generator on and its checker on its own generator; lane 4 with its checker on. -/
theorem witness_LanePatterns :
    (Works (st2 ready) .a ∧ 5 ≤ (5 : Lane).val) ∧ (Works (st ready) .a ∧ ready.power.dev = .ready ∧ ready.acq.phase = .idle) ∧
    (Works (st running) .a ∧ ¬ ((running.power.dev = .ready ∨ running.power.dev = .minimal) ∧ running.acq.phase = .idle)) ∧
    (fld (0 : Word) 13 8 = 0 ∧ fld (0x100 : Word) 13 8 ≠ 0 ∧ wbit (0x100 : Word) 15 = false ∧ (ready.lane 0).st ≠ .idle ∧
      wbit (ready.rd 0x1C31) 18 = false) ∧
    (let x : LaneSt := { laneUp with st := .prbs, prbsEnd := some 4000, chkLock := true }
     let b := ({ ready with regs := [(0x1C11, 0xC8000#20), (0x1C31, 0x40000#20)] }.setLane 0 x).setLane 4 x
     Works (st b) .a ∧ wbit (b.rd 0x1C11) 19 = true ∧ wbit (b.rd 0x1C11) 18 = true ∧ wbit (b.rd 0x1C11) 15 = true ∧ (b.lane 0).inject ≤ 31 ∧
       (b.lane 0).chkLock = true ∧ (b.rd 0x1C13).toNat * 2 ^ 20 + (b.rd 0x1C14).toNat ≤ 0xFFFFFFFF ∧ (b.lane 0).prbsEnd = some 4000 ∧
       4000 ≤ b.xc ∧ (b.lane 0).st = .prbs ∧ wbit (b.rd 0x1C31) 18 = true ∧ (b.lane 4).inject = 0 ∧ { x with chkLock := false }.chkLock = false ∧
       b.xc < 4001) ∧ wbit (ready.rd 0x1C11) 19 = false := by
  unfold Works; decide

/-- A unit whose bank holds one word, armed for this crossing. -/
def due : Bn := { banked .armed with stage := { (banked .armed).stage with armedN := 5120 }, power := { ready.power with doms := [] } }

theorem witness_BoundaryWork :
    Works (st ready) .a ∧ ready.stage.st ≠ .armed ∧
    (Works (st due) .a ∧ due.asleep 0x2404 = false ∧ due.failedBlock 0x2404 = false ∧ due.stage.st = .armed ∧ due.stage.armedN ≤ due.now ∧
      due.stage.armedN < 2 ^ 48 ∧ due.stage.words = [(0x2404, 1)] ∧ due.stage.formeIn = false ∧ due.stage.fvWords = [] ∧ due.arr.comps = [] ∧
      due.lease.join.y = none ∧ due.lease.role ≠ .cold) ∧
    (let b := { ready with gal := { ready.gal with flushes := [(63, 5120)] } }
     ((63 : Fin 64).val, b.now) ∈ b.gal.flushes ∧ ((0 : Fin 64).val, b.now) ∉ b.gal.flushes) ∧
    (ready.acq.lvlAt ≠ some ready.xc ∧ { ready with acq := { ready.acq with lvlAt := some 4000 } }.acq.lvlAt = some ready.xc) ∧
    (let b := { running with regs := [(0x2414, 0#20), (0x2415, 100#20), (0x2416, 10#20), (0x2417, 300#20)],
                             acq := { running.acq with level := 2, cutN := 2, cutAt := some 3990 } }
     Works (st b) .a ∧ b.power.dev = .run ∧ b.acq.cutAt ≠ some b.xc ∧ 2 ≤ b.acq.level ∧ b.acq.prevLevel < 2 ∧
       (b.rd 0x2414).toNat + b.acq.cutN * (b.rd 0x2415).toNat < (b.rd 0x2417).toNat ∧ b.acq.cutAt = some 3990 ∧ 3990 < b.xc ∧
       (b.rd 0x2416).toNat ≤ b.xc - 3990 ∧ b.xc - 3991 < (b.rd 0x2416).toNat ∧ { b.acq with level := 1 }.level < 2 ∧ 0 < b.acq.cutN ∧
       (b.rd 0x2417).toNat ≤ (b.rd 0x2414).toNat + { b.acq with cutN := 3 }.cutN * (b.rd 0x2415).toNat) ∧
    (∀ c ∈ counters, ready.asleep c.2.1 = false ∧ ready.failedBlock c.2.1 = false) := by
  unfold Works; decide

theorem witness_BoundaryWork_woken : ∀ n, (due.dom n).woken = false := fun _ => rfl

theorem witness_GalleyScrub :
    (Works (st ready) .a ∧ wbit (ready.rd 0x2C12) 19 = true ∧ ready.gal.scrub = none ∧ (List.range 16).all (fun i => ready.domOn (136 + i)) = true ∧
      ready.gal.scrubPos < 0x40000) ∧ wbit ({ ready with regs := [(0x2C12, 0#20)] }.rd 0x2C12) 19 = false ∧
    (let c : Cell := ⟨5, 6, 7, 1⟩
     let b := { ready.setCell 1 c with regs := [(0x2C12, 0x80001#20)] }.mapGal (fun g => { g with scrubPos := 1 })
     fld (b.rd 0x2C12) 5 0 = 1 ∧ wbit (b.rd 0x2C12) 19 = true ∧ b.gal.scrubPos % 4 ≠ 0 ∧ (b.cell 1).valid = 7 ∧ (b.cell 1).flips = 1 ∧
       (rsRead (addrCell 1) (b.cell 1).data 1).1 = .corrected ∧ (ready.cell 1).flips = 0 ∧ { c with flips := 0 }.valid = 7) ∧
    (let b := { ready with gal := { ready.gal with scrub := some ⟨0x3FFFE, 0x3FFFF, 32⟩ } }
     b.gal.scrub = some ⟨0x3FFFE, 0x3FFFF, 32⟩ ∧ 0x3FFFE ≤ 0x3FFFF ∧ 0x3FFFF < 0x40000 ∧ b.rd 0x2C14 = 0) := by
  unfold Works; decide +kernel

/-- In an empty galley no cell is valid and every link is clean. -/
theorem witness_GalleyScrub_empty : (∀ a, (ready.cell a).isValid = false) ∧ ∀ a, ready.linkOutcome a = .clean := by
  refine ⟨fun a => ?_, fun a => ?_⟩
  · show Cell.blank.isValid = false
    decide
  · show (rsRead (addrLink (a / 4)) 0 0).1 = .clean
    simp [rsRead]

theorem witness_RunStartsAndEnds :
    ((st ready).hasBn .a = true ∧ ready.acq.phase ≠ .startPend) ∧
    (let b := { ready with acq := { ready.acq with phase := .startPend, s := 5120 } }
     b.acq.phase = .startPend ∧ b.now = b.acq.s ∧ b.power.dev = .ready ∧ b.power.clkWait = false ∧ b.stage.restoreArmed = false ∧
       { b with stage := { b.stage with restoreArmed := true } }.stage.restoreArmed = true) ∧
    (let b := { running with acq := { running.acq with phase := .stopPend, e := 5120 } }
     b.acq.phase = .stopPend ∧ b.acq.e ≤ b.now ∧ b.power.dev = .run ∧ b.now < { b.acq with e := 5121 }.e) ∧
    (let b := { running with acq := { running.acq with phase := .drain, e := 5000 }, regs := [(0x240B, 120#20)] }
     b.acq.phase = .drain ∧ b.acq.e + (b.rd 0x240B).toNat ≤ b.now ∧ b.now < b.acq.e + 121) := by decide

/-- A unit in RUN without a lease, without a sheet in this crossing; one with a forme of the standard set; a holder with the sheet at
TX_NEXT in its slot. -/
theorem witness_Sheets :
    (let b := unit .run .cold
     (st b).hasBn .a = true ∧ b.power.dev = .run ∧ b.power.clkWait = false ∧ b.asmAt b.xc = none ∧ b.arr.jwords = [] ∧ b.std = none ∧
       b.acq.s + b.primLat ≤ b.now + 1 ∧ b.holds = false ∧ b.now + 1 < { b.acq with s := 5122 }.s + b.primLat) ∧
    (let b := { unit .run .cold with loader := { running.loader with live := true }, regs := [(0x4051, 0x8#20)] }
     b.std = some .hit) ∧
    (let b := { running with sheets := { running.sheets with asms := [⟨4000, 1, 2, true, false⟩] } }
     b.asmAt b.xc = some ⟨4000, 1, 2, true, false⟩) ∧
    ((unit .run .cold).power.dev.runsPackets = true ∧ ((unit .run .cold).lane 0).st = .active ∧ (unit .run .cold).sheets.sentAt ≠ some 4000 ∧
      (unit .run .cold).power.after = [] ∧ dozing.power.dev.runsPackets = false) := by decide

theorem witness_Sheets_holder :
    (let b := { running with regs := [(0x2009, 7#20), (0x2801, 1#20), (0x2C1C, 9#20), (0x2C1D, 3#20)] }.setCell (slotCell 7 0) ⟨dbl 7 0, 0, 7, 0⟩
     b.holds = true ∧ b.hoPause = false ∧ b.lanesReady = true ∧ b.power.runBefore = false ∧ b.rd 0x2C1D ≠ 0 ∧ older 0 (b.rd 0x2009) = true ∧
       older (b.rd 0x2C1C) (b.rd 0x2009) = false ∧ b.isHeld (b.rd 0x2009) = true ∧ b.sheets.tkR = false ∧ b.sheets.hold = false ∧
       b.sheets.dreq = none ∧ (st b).variant ≠ .sln2) := by decide +kernel

/-! ## Witnesses: the pair -/

theorem crc32_lt (bs : List Bool) : crc32 bs < 2 ^ 32 := by
  have h : ∀ (bs : List Bool) (c : Nat), c < 2 ^ 32 → bs.foldl (crcStep 32 0x04C11DB7) c < 2 ^ 32 := by
    intro bs
    induction bs with
    | nil => intro c hc; exact hc
    | cons x t ih =>
      intro c _
      refine ih _ ?_
      unfold crcStep
      have h1 : c * 2 % 2 ^ 32 < 2 ^ 32 := Nat.mod_lt _ (by decide)
      dsimp only
      split
      · exact Nat.xor_lt_two_pow h1 (by decide)
      · exact h1
  exact h bs _ (by decide)

/-- A frame of the crossing before from a partner that is SHADOW, with a check, its CRC right. -/
def frame1 : Nat :=
  let f := 5119 * 2 ^ 240 + 1 * 2 ^ 237 + 2 ^ 232 + 77 * 2 ^ 200
  f + crc16Frame (BitVec.ofNat 256 f)

/-- Unit A with a sheet of two crossings ago whose check is as given, BN-B with a frame on the cross-link. -/
def linked (check run : Nat) : State :=
  (st { running with
    sheets := { running.sheets with asms := [⟨3998, 5000, check, true, false⟩] }
    regs := [(0x2002, 3#20), (0x2010, wof run), (0x3C03, 0#20)] }).setBn .b { Bn.dark .b with xl := { XLink.dead with out := some frame1 } }

theorem witness_CrossLink :
    (let s := linked 77 0
     let b := s.bn .a
     Paired s .a ∧ (s.bn .b).frameFor b.time.prev = some frame1 ∧ b.xl.took = false ∧ b.domOn 158 = true ∧ (b.lane 6).los = false ∧
       (b.lane 6).st ≠ .prbs ∧ (b.lane 6).blockLock = true ∧ b.asmAt (b.xc - 2) = some ⟨3998, 5000, 77, true, false⟩) ∧
    (crc16Frame (BitVec.ofNat 256 (frame1 / 2 ^ 16 * 2 ^ 16)) = frame1 % 2 ^ 16 ∧ frame1 / 2 ^ 240 = 5119 % 2 ^ 16 ∧
      frame1.testBit 232 = true ∧ bitsOf frame1 239 237 = 1 ∧ bitsOf frame1 231 200 = 77) ∧
    (let b := (linked 78 2).bn .a
     bitsOf frame1 231 200 ≠ 78 ∧ (b.rd 0x2010).toNat + 1 = fld (b.rd 0x2002) 3 0 ∧ b.lease.role = .active ∧
       (b.rd 0x3C03).toNat < b.xc - b.lease.a1 + 8) ∧
    (running.xl.down = true ∧ (running.lane 6).los = false ∧ (running.lane 6).lol = false ∧
      64 ≤ { running.xl with run := 64 }.run ∧ { running.xl with down := false }.down = false ∧ (running.rd 0x1C09).toNat < 16 ∧
      16 ≤ ({ running with regs := [(0x1C09, 16#20)] }.rd 0x1C09).toNat ∧ (running.setLane 6 .rest).lane 6 = .rest ∧ LaneSt.rest.lol = true) := by
  unfold Paired; decide +kernel

/-- A unit whose probe has been clean for long passes its own check. -/
theorem witness_CrossLink_passes :
    (let b := { running with regs := [(0x3C03, 5000#20)] }
     ¬ FailsCheck b b.lease.a1) := by
  refine fun h => ?_
  rcases h with h | h | ⟨n, _, h, _⟩
  · exact absurd h (by decide)
  · exact absurd h (by decide)
  · exact absurd h (by simp [Bn.used, running, unit, Bn.dark, Loader.empty])

/-- Counter 8 192 is a multiple of 4 096; a candidate of 5 116 is four crossings old at 5 120. -/
theorem witness_AnchorsAndMessages :
    ((st running).hasBn .a = true ∧ running.power.dev.crosses = true ∧ running.power.clkWait = false ∧ running.anchors.cand = [] ∧
      running.anchors.due = [] ∧ { running with acq := { running.acq with phase := .run } }.acq.phase = .run ∧ running.holds = true ∧
      { running.time with counter := 8192 }.counter % 4096 = 0 ∧ (unit .run .shadow).holds = false ∧ { running.acq with sXc := 4000 }.sXc = running.xc ∧
      { running.anchors with timeEvent := some 5119 }.timeEvent.isSome = true) ∧
    (let a : Anc := ⟨0, false, false, false, 5116, 0, 0⟩
     let b := { ready with anchors := { ready.anchors with cand := [a] } }
     b.anchors.cand = [a] ∧ (a.counter + 4) % 2 ^ 48 = b.now ∧ b.power.dev ≠ .run ∧ b.anchors.due = [] ∧ b.xl.down = true ∧
       { b.xl with down := false, force := some (2 ^ 236) }.force = some (2 ^ 236) ∧ (2 ^ 236).testBit 236 = true) ∧
    (Paired (st ready) .a ∧ ready.xl.twinLast = none ∧ 3936 + 64 ≤ ready.xc ∧ ready.xc < 3937 + 64) ∧
    (let b := { ready with lease := { ready.lease with join := { ready.lease.join with y := some 5120, count := 66, outIdx := 64 } },
                           xl := { ready.xl with down := false } }
     b.lease.join.y = some 5120 ∧ b.holds = true ∧ b.xl.down = false ∧ 5120 ≤ b.now ∧ b.lease.join.outIdx < b.lease.join.count ∧ b.xl.st = []) := by
  unfold Paired; decide

/-- CONTROL code 1 with a reason for a deferral: its argument names another forme than none. -/
def askFrame (arg : Nat) : Nat := 2 * 2 ^ 196 + 1 * 2 ^ 192 + arg * 2 ^ 16

theorem witness_ShadowEntry :
    (let b := { cold with lease := { cold.lease with join := { cold.lease.join with wanted := true, askAt := some 2976 } }, xl := { cold.xl with down := false } }
     Paired (st b) .a ∧ b.lease.role = .cold ∧ b.lease.join.code ≠ 2 ∧ b.lease.join.wanted = true ∧ b.lease.join.askAt = some 2976 ∧ 2976 + 1024 ≤ b.xc ∧
       b.power.dev = .ready ∧ b.acq.phase = .idle ∧ b.stage.st ≠ .armed ∧ b.xl.down = false) ∧
    (let b := { ready with xl := { ready.xl with down := false, force := some (askFrame (2 ^ 96)), forceAt := 4000 } }
     Paired (st b) .a ∧ b.holds = true ∧ b.ctlNow = some (1, 0, 2 ^ 96) ∧ bitsOf (2 ^ 96) 127 96 ≠ b.liveHdrCrc) ∧
    (ready.ctlNow = none ∧ ready.holds = true) ∧
    (let j : Joining := { Joining.none with y := some 5100, count := 66, outIdx := 68 }
     let b := { ready with lease := { ready.lease with join := j }, xl := { ready.xl with down := false } }
     b.holds = true ∧ b.xl.down = false ∧ j.y.isSome = true ∧ j.l = none ∧ j.count ≤ j.outIdx ∧ b.xl.st = [] ∧
       { b with lease := { b.lease with join := { j with l := some 5120 } } }.lease.join.l = some b.now ∧
       { b with stage := { b.stage with st := .armed } }.stage.st = .armed) ∧
    (let j : Joining := { Joining.none with code := 2, y := some 5085, count := 66 }
     let b := { cold with lease := { cold.lease with join := j }, xl := { cold.xl with down := false } }
     b.lease.role = .cold ∧ j.code = 2 ∧ j.y = some 5085 ∧ j.l = none ∧ 5085 + (j.count + 3) / 4 - 1 + 2 + 16 < b.now ∧ b.xl.down = false) := by
  unfold Paired; decide

/-- An ask whose two CRCs are those of the holder: there is one, and it finds no reason to defer. -/
theorem witness_ShadowEntry_agrees : ∃ b : Bn, ∃ arg, Paired (st b) .a ∧ b.holds = true ∧ b.xl.down = false ∧ b.ctlNow = some (1, 0, arg) ∧
    bitsOf arg 127 96 = b.liveHdrCrc ∧ bitsOf arg 95 64 = b.liveCrc false ∧ b.power.dev = .ready ∧ b.acq.phase = .idle ∧ b.stage.st ≠ .armed := by
  have key : ∀ c, c < 2 ^ 32 → bitsOf (c * 2 ^ 64) 127 96 = 0 ∧ bitsOf (c * 2 ^ 64) 95 64 = c ∧ frType (askFrame (c * 2 ^ 64)) = 2 ∧
      bitsOf (askFrame (c * 2 ^ 64)) 195 192 = 1 ∧ bitsOf (askFrame (c * 2 ^ 64)) 191 144 = 0 ∧ bitsOf (askFrame (c * 2 ^ 64)) 143 16 = c * 2 ^ 64 := by
    intro c hc
    simp only [bitsOf, frType, askFrame]
    omega
  have hc : ready.liveCrc false < 2 ^ 32 := crc32_lt _
  obtain ⟨h1, h2, h3, h4, h5, h6⟩ := key _ hc
  generalize hg : ready.liveCrc false = c at *
  refine ⟨{ ready with xl := { ready.xl with down := false, force := some (askFrame (c * 2 ^ 64)), forceAt := 4000 } }, c * 2 ^ 64,
    ⟨(by decide : Variant.sln8 ≠ .sln2), rfl, rfl⟩, rfl, rfl, ?_, ?_, ?_, rfl, rfl, (by decide : StageState.empty ≠ .armed)⟩
  · unfold Bn.ctlNow
    dsimp only
    rw [if_pos ⟨rfl, h3⟩, h4, h5, h6]
  · rw [h1]; rfl
  · rw [h2, ← hg]; rfl

/-- A handover asked for at own crossing 3 999, 3 995 or now, with H now or later. -/
theorem witness_HandoverAndExpiry :
    (let h : Handover := ⟨3999, 5127, false, 0, false, none⟩
     let b := { ready with lease := { ready.lease with ho := some h }, xl := { ready.xl with down := false, force := some (2 ^ 237) } }
     Paired (st b) .a ∧ b.lease.ho = some h ∧ b.holds = true ∧ h.k + 1 = b.xc ∧ h.asked = false ∧ b.xl.down = false ∧ b.xl.force = some (2 ^ 237) ∧
       bitsOf (2 ^ 237) 239 237 = 1 ∧ { h with k := 3995, asked := true }.k + 5 = b.xc ∧ { h with accepted := true }.accepted = true) ∧
    (let h : Handover := ⟨4000, 5125, false, 5, false, none⟩
     let b := { unit .ready .shadow with lease := { (unit .ready .shadow).lease with ho := some h } }
     Paired (st b) .a ∧ b.lease.role = .shadow ∧ h.k = b.xc ∧ h.accepted = false ∧ b.lease.gaveUp = false ∧ b.rd 0x2010 = 0 ∧ b.sheets.firstSeq = none) ∧
    (let h : Handover := ⟨3992, 5120, true, 5, true, some (6000, 5, 4)⟩
     h.h = ready.now ∧ h.committed = some (6000, 5, 4) ∧ ready.lease.role = .active ∧ (unit .ready .shadow).lease.role = .shadow ∧
       { h with committed := none }.committed = none) ∧
    (let b := { ready with lease := { ready.lease with exp := 5119 } }
     b.lease.role = .active ∧ b.lease.exp < b.now ∧ ready.now ≤ ready.lease.exp) ∧
    (let b := { unit .ready .shadow with regs := [(0x2001, 0x40000#20), (0x2004, 64#20), (0x3C03, 64#20)] }
     b.lease.role = .shadow ∧ wbit (b.rd 0x2001) 18 = true ∧ wbit (b.rd 0x2001) 19 = (b.unit == .b) ∧ b.lease.shadowSince + (b.rd 0x2004).toNat ≤ b.xc ∧
       (b.rd 0x2004).toNat ≤ (b.rd 0x3C03).toNat) := by
  unfold Paired; decide

/-! ## Witnesses: power states, clocks, the pantry -/

theorem witness_Doze :
    (let b := { running with power := { running.power with entry := some ⟨true, some 4000⟩ } }
     EntryNow (st b) .a true) ∧
    (Dozes ready 136 ∧ (ready.dom 136).power = .on ∧ ¬ Dozes ready 156 ∧ ready.loader.live = false) ∧
    (let b := { dozing with power := { dozing.power with dozeX := some 4000 } }
     (st b).hasBn .a = true ∧ b.power.dev = .doze ∧ b.power.clkWait = false ∧ b.power.dozeX = some 4000 ∧ 4000 ≤ b.xc ∧ b.xc < 4001) ∧
    (let b := { dozing with power := { dozing.power with runBefore := true, dozeD := 3000 }, regs := [(0x1002, 1001#20)] }
     b.power.dev = .doze ∧ b.power.runBefore = true ∧ b.power.dozeX = none ∧ b.power.dozeD + (b.rd 0x1002).toNat ≤ b.xc + 1) := by
  refine ⟨?_, ?_, by decide, by decide⟩
  · exact ⟨rfl, rfl, Or.inr rfl, ⟨true, some 4000⟩, 4000, rfl, rfl, rfl, by decide⟩
  · refine ⟨Or.inr (Or.inl (by decide)), by decide, ?_, rfl⟩
    rintro (h | h | h | h)
    · have : ready.liveDoms = [] := by decide
      rw [this] at h; exact absurd h (by simp)
    · exact absurd h (by decide)
    · exact absurd h (by decide)
    · exact absurd h (by decide)

theorem witness_Sleep :
    (let b := { ready with power := { ready.power with entry := some ⟨false, some 4000⟩ }, boot := { ready.boot with outcome := 1 } }
     EntryNow (st b) .a false ∧ b.power.wakeLatched = false ∧ b.boot.outcome ≠ 0) ∧
    (let b := unit .sleep .none
     (st b).hasBn .a = true ∧ b.power.dev = .sleep ∧ b.power.bursts % 2 = 0 ∧ b.power.bursts < 14 ∧ 12 ≤ 12 ∧ 24 ≤ 24 ∧
       b.boot.health.checkerFails = 0 ∧ { b.power with doms := [], bursts := 14 }.bursts = 14 ∧ { b.power with bursts := 13 }.bursts % 2 = 1) ∧
    (ready.power.dev ≠ .sleep ∧ ready.power.entry = none) := by
  refine ⟨⟨⟨rfl, rfl, Or.inl rfl, ⟨false, some 4000⟩, 4000, rfl, rfl, rfl, by decide⟩, rfl, by decide⟩, by decide, by decide⟩

theorem witness_ClockFailures :
    ((st running).hasBn .a = true ∧ running.power.dev.crosses = true ∧ running.power.clkWait = false ∧ running.power.pllLock = true ∧
      running.power.ctrlIn = 2 ∧ running.power.xoOk = true ∧ running.power.pllRef ≠ 1 ∧ minimal.power.dev = .minimal) ∧
    ({ booting with power := { booting.power with pllRef := 1 } }.power.pllRef = 1 ∧ (unit .ready .active).power.dev ≠ .boot) ∧
    (let b := { ready with power := { ready.power with clkWait := true, pllLock := false } }
     b.power.clkWait = true ∧ b.power.pllLock = false ∧ b.power.dev ≠ .boot) ∧
    ({ ready with power := { ready.power with xoOk := false } }.power.xoOk = false) := by decide

/-- One turned bit is corrected; thirteen turned symbols are not. The sweep asks for the first retained word of die 0. -/
theorem witness_PantryAndTimers :
    ((st ready).hasBn .a = true ∧ ready.power.dev ≠ .off ∧
      (rsRead (addrPantry ready.pantry.scrubNext) (ready.pantryData ready.pantry.scrubNext) (mget ready.pantry.flips 0 0)).1 = .clean ∧
      (rsRead (addrPantry 0) (ready.pantryData 0) 1).1 = .corrected) ∧
    (let o := (rsRead (addrPantry 3) (ready.pantryData 3) (2 ^ 104 - 1)).1
     o ≠ .clean ∧ o ≠ .corrected) ∧
    ((st ready).dies[ready.pantry.sweepPos / fvRetained.length % (st ready).dies.length]? = some 0 ∧
      fvRetained[ready.pantry.sweepPos % fvRetained.length]? = some (fvRetained.headD 0) ∧ ready.xc % 16 = 0 ∧ ready.reqs = [] ∧
      ready.domOn (159 + 0) = true) ∧
    ({ ready with sess := { ready.sess with level := .service } }.sess.level ≠ .open ∧ ready.sess.locked .service = false ∧
      { ready with sess := { ready.sess with lockB := true } }.sess.locked .service = true) := by decide +kernel

/-! ## Witnesses: housekeeping, temperature limits, the test access port -/

/-- A conversion of a class, at 10 samples a second, settled, whose next sample is due at second 2. -/
def conv (cls : Nat) : Conv :=
  ⟨3, false, false, [wof (2 ^ 19 + cls * 2 ^ 17), 0x4000A, 0, 0, 0, 0x40000], 1, 2 * 1024000000000, 0, none, 0, 0, 0, 0, 0, 0, false, false,
    false, 0, 0, false⟩

/-- The instant of that sample. -/
def sampleAt : Nat := 2 * 1024000000000

/-- A unit that converts, at the time when that sample is complete. -/
def converting (c : Conv) : Bn :=
  { ready with
    time := { ready.time with t := (sampleAt + groupTk 4) * 2 ^ 20 }
    hkc := { ready.hkc with conv := some c } }

theorem witness_HousekeepingSamples :
    (Converts (st ready) .a ∧ ready.hkc.conv = none ∧ 0 < 10) ∧
    (∀ cls ∈ [0, 1, 2, 3],
      let c := conv cls
      let b := converting c
      let gd := groupTk (fld (c.w 1) 19 16)
      Converts (st b) .a ∧ b.hkc.conv = some c ∧ c.lastT = none ∧ sampleAt = gridNext (fld (c.w 1) 10 0) c.tsw ∧
        ¬ (2 ^ c.k ≤ c.m ∨ 2 ^ (c.k + 1) ≤ c.outs) ∧ b.excLost c = false ∧ sampleAt + gd < b.time.t / 2 ^ 20 + 25600 ∧
        ¬ sampleAt < c.settle + gd ∧ b.blankIn (sampleAt - gd) (sampleAt + gd) = false ∧ fld (c.w 0) 18 17 = cls ∧
        c.absent (st b).variant = false ∧ b.overIn (sampleAt - gd) (sampleAt + gd) = none) ∧
    (2 ^ (conv 0).k ≤ { conv 0 with m := 2 }.m) ∧
    ((117760 : Int) ≤ max (-0x80000) (min 0x7FFFF ((((117760 : Word).toInt - 0) * (0x40000 : Word).toNat + 2 ^ 17).fdiv (2 ^ 18)))) ∧
    mget { ready.hkc with dieRun := [(3, 1)] }.dieRun 3 0 ≠ 0 := by
  unfold Converts; decide +kernel

/-- A conversion with all its samples, as a unit outside a round, in one, and at its end holds it. -/
theorem witness_HousekeepingDwells :
    (let c := { conv 0 with m := 2 }
     let b := converting c
     Converts (st b) .a ∧ b.hkc.conv = some c ∧ fld (c.w 0) 18 17 ≠ 2 ∧ wbit (c.w 0) 12 = false ∧ c.entry < 64 ∧ 2 ^ c.k ≤ c.m ∧
       b.excLost c = false ∧ c.absent (st b).variant = false ∧ b.hkc.urg = [] ∧ b.hkc.pendStart = false ∧ b.hkc.running = false ∧
       { b.hkc with running := true, stopping := true }.stopping = true ∧ sqMode c.sq ≠ 1 ∧ ¬ 2 ^ c.k ≤ (conv 0).m) ∧
    (let c := { conv 0 with sq := [wof (2 ^ 19), 0x4000A, 0x40200, 0, 0, 0x40000] }
     sqMode c.sq = 1 ∧ ready.holds = true ∧ cold.excLost c = true) ∧
    (let b := { ready with hkc := { ready.hkc with urg := [(2, 5), (0, 0)] } }
     (0, 0) ∈ b.hkc.urg ∧ (∀ q ∈ b.hkc.urg, q ≠ (0, 0) → 0 < q.1) ∧ (0 : Nat) < 3 ∧ sqMode (entryWords b 0) = 0 ∧ b.hkc.conv = none ∧
       (conv 0).urgent = false ∧ { conv 0 with urgent := true }.urgent = true ∧ mget b.hkc.abandons 3 0 < 3 ∧
       3 ≤ mget { b.hkc with abandons := [(3, 3)] }.abandons 3 0) := by
  unfold Converts; decide +kernel

theorem witness_HousekeepingDwells_next : NextEntry ready 0 0 ∧ Allowed ready 0 :=
  ⟨⟨by decide, by decide, by decide, by decide, fun k _ h => absurd h (by omega)⟩, Or.inl (by decide +kernel)⟩

theorem witness_HousekeepingRounds :
    (let b := { ready with regs := [(0x3001, 0x10000#20)] }
     let w := b.rd 0x3001
     Works (st b) .a ∧ b.asleep 0x3000 = false ∧ b.failedBlock 0x3000 = false ∧ wbit w 17 = false ∧ wbit w 19 = false ∧
       (b.hkc.pin || wbit w 18) = b.hkc.blanks.any (fun p => p.2.isNone) ∧ wbit w 16 = true ∧ b.hkc.running = false ∧ b.hkc.conv = none ∧
       b.hkc.urg = [] ∧ { b.hkc with running := true }.running = true) ∧ wbit ({ ready with regs := [(0x3001, 0#20)] }.rd 0x3001) 16 = false ∧
    (let b := { ready with regs := [(0x3001, 0x10000#20), (0x3002, 1#20)] }
     let per := (b.rd 0x3002).toNat % 2 ^ 16 * 1024000000
     Converts (st b) .a ∧ per ≠ 0 ∧ (b.time.t / 2 ^ 20 + per - 1) / per * per < b.time.t / 2 ^ 20 + 25600 ∧
       b.hkc.lastPeriodic ≠ some ((b.time.t / 2 ^ 20 + per - 1) / per * per)) ∧
    ({ ready.hkc with blanks := [(1, none)] }.blanks.any (fun p => p.2.isNone) = true) ∧ ready.hkc.pendStart = false := by
  unfold Works Converts; decide +kernel

theorem witness_ThrottleAndTestPort :
    (let b := { ready with therm := { ready.therm with decided := .asked } }
     (st b).hasBn .a = true ∧ b.holds = true ∧ b.therm.decided = .asked ∧ ready.therm.decided = .normal) ∧
    ((st ready).variant ≠ .sln2 ∧ ready.therm.pend = [] ∧ ready.therm.sentAt + 1024 ≤ ready.xc ∧ ready.xc < { ready.therm with sentAt := 2977 }.sentAt + 1024) ∧
    cold.holds = false ∧
    (let b := { booting with boot := { booting.boot with step := 1, straps := ⟨3, 0⟩ }, tap := { Tap.rest with st := .capDr } }
     b.power.dev = .boot ∧ b.boot.step = 1 ∧ b.boot.straps.bootsel = 3 ∧ { st b with trstPin := true }.trstPin = true ∧ b.tap.st = .capDr ∧
       b.tap.ir = .idcode ∧ { b.tap with tdo := some true }.tdo = some true) := by decide

/-- A unit without results has no rising entry. -/
theorem witness_ThrottleAndTestPort_falls : ¬ ∃ e, e < 64 ∧ fld (ready.rd (0x3100 + 8 * e)) 18 17 = 2 ∧ ready.rateValid e = true ∧
    (ready.rd 0x3404).toInt ≤ mget ready.therm.rate e 0 := by
  rintro ⟨e, _, _, h, _⟩
  have : ready.therm.rate = [] := rfl
  simp [Bn.rateValid, this] at h

/-! ## Witnesses: the invariants -/

theorem roleFits_dark (u : BnId) : RoleFits (Bn.dark u) := by
  refine ⟨fun h => ?_, fun h => by cases u <;> exact absurd h (by decide), fun _ _ => by cases u <;> exact ⟨rfl, rfl⟩⟩
  rcases h with h | h | h <;> (cases u <;> exact absurd h (by decide))

theorem roleFits_ready : RoleFits ready := by
  refine ⟨fun _ => ⟨by decide, by decide, fun r x h => by cases h⟩, fun h => absurd h (by decide), fun h => absurd (Or.inl rfl) h⟩

/-- A state in which a unit works, with a command that has an effect waiting. -/
def busyState : State := { st ready with pending := [.snap .a false] }

theorem witness_RolesFitDeviceStates : (∀ u, RoleFits (busyState.bn u)) ∧ ∃ t, step busyState = .next t ∧ t ≠ busyState := by
  refine ⟨fun u => ?_, _, rfl, fun h => ?_⟩
  · cases u
    · exact roleFits_ready
    · exact roleFits_dark .b
  · exact absurd (congrArg State.pending h) (by decide)

theorem witness_AbsentPartsStayDark : AbsentDark { busyState with variant := .sln2 } ∧ ∃ t, step { busyState with variant := .sln2 } = .next t := by
  refine ⟨⟨fun u h => ?_, fun d h => ?_⟩, _, rfl⟩
  · cases u
    · exact absurd h (by decide)
    · rfl
  · show (Vector.replicate 6 Fv.dark)[d] = Fv.dark
    simp

end Sys2Proof.Tests
end

/-! The instructions of the compositor array: when one issues (R182-R184, R212, R215, R216), where its result lands (R217), and the
results of the shift, field, leading-zero, compare, select and predicate instructions (R223-R227). -/

section

namespace Sys2Proof.Machine

open Sys2Proof.Claims

/-! ### The opcode word (R212) -/

theorem bitsOf_low (n hi : Nat) : bitsOf n hi 0 = n % 2 ^ (hi + 1) := by
  rw [bitsOf, Nat.pow_zero, Nat.div_one, Nat.sub_zero]

theorem toNat_append_eq {v w : Nat} (x : BitVec v) (y : BitVec w) : (x ++ y).toNat = x.toNat * 2 ^ w + y.toNat := by
  rw [BitVec.toNat_append, ← Nat.shiftLeft_add_eq_or_of_lt y.isLt, Nat.shiftLeft_eq]

/-- The opcode in [39:34], the fields below it. -/
theorem toNat_insWord {op : Nat} (h : op < 64) (f : IFields) :
    (insWord op f).toNat = op * 2 ^ 34 + (insWord 0 f).toNat ∧ (insWord 0 f).toNat < 2 ^ 34 := by
  have hpsel := f.psel.isLt
  have hd := f.d.isLt
  have ha := f.a.isLt
  have hb := f.b.isLt
  have himm := f.imm.isLt
  have hsense := (if f.psense then 1#1 else 0#1).isLt
  simp only [insWord, toNat_append_eq, BitVec.toNat_ofNat]
  omega

/-- A word is an instruction's when its opcode and its fields are. -/
theorem eq_insWord_iff {op : Nat} (h : op < 64) (w : Dbl) (f : IFields) :
    w = insWord op f ↔ bitsOf w.toNat 39 34 = op ∧ bitsOf w.toNat 33 0 = bitsOf (insWord 0 f).toNat 33 0 := by
  obtain ⟨hw, hlow⟩ := toNat_insWord h f
  have := w.isLt
  rw [← BitVec.toNat_inj, hw, bitsOf_low, bitsOf_low, bitsOf]
  omega

/-! ### The issue (R182-R184) -/

/-- The two instructions of a codeword, the one at the even position first (R201). -/
theorem dof_first (x y : Dbl) : dof ((x.toNat * 2 ^ 40 + y.toNat) / 2 ^ 40) = x := by
  apply BitVec.eq_of_toNat_eq
  rw [dof, BitVec.toNat_ofNat]
  omega

theorem dof_second (x y : Dbl) : dof (x.toNat * 2 ^ 40 + y.toNat) = y := by
  apply BitVec.eq_of_toNat_eq
  rw [dof, BitVec.toNat_ofNat]
  omega

/-- A codeword of the instruction memory without a flipped bit reads as stored (R201, R202). -/
theorem Bn.iread_of_sound {b : Bn} {n pos : Nat} (h : mget (b.comp n).flips (memKey 2 (b.comp n).insBank (pos / 2)) 0 = 0) :
    b.iread n pos = (b, mget (b.comp n).insLive pos 0) := by
  have hmem : b.memRead 2 n (pos / 2) = (b, true,
      (mget (b.comp n).insLive (2 * (pos / 2)) 0).toNat * 2 ^ 40 + (mget (b.comp n).insLive (2 * (pos / 2) + 1) 0).toNat) := if_pos h
  rw [Bn.iread, hmem]
  refine Prod.ext rfl ?_
  obtain heven | hodd := Nat.mod_two_eq_zero_or_one pos
  · have hplace : 2 * (pos / 2) = pos := by omega
    simp only [heven, if_true, dof_first, hplace]
  · have hplace : 2 * (pos / 2) + 1 = pos := by omega
    simp only [hodd, Nat.one_ne_zero, if_true, if_false, dof_second, hplace]

/-- The compositor may issue in this cycle (R182-R184): the first guard of `Bn.issue`. -/
def Bn.MayIssue (b : Bn) (n : CompId) (c : Cyc) : Prop :=
  ¬ (b.power.dev ≠ .run ∨ b.power.clkWait = true ∨ b.used n.val = false ∨ b.domOn n.val = false ∨
    b.domOn (128 + n.val / 16) = false ∨ c.val = 31 ∨ 128 * c.val + n.val + 1 ≤ b.arr.cursor)

/-- The place of the crossing's position in the instruction memory. -/
def Bn.place (b : Bn) (c : Cyc) : Nat := 32 * (b.now % b.period) + c.val

/-- The compositor as cycle `c` begins: the results due before it have landed (R217). -/
def Bn.compAt (b : Bn) (n : CompId) (c : Cyc) : Comp := (b.comp n.val).settle (32 * b.xc + c.val - 1)

/-- The unit that has noted the issue of compositor `n` in cycle `c`. -/
def Bn.withIssue (b : Bn) (n : CompId) (c : Cyc) : Bn :=
  ({ b with cyc := c.val, arr := { b.arr with cursor := 128 * c.val + n.val + 1 } } : Bn).setComp n.val (b.compAt n c)

/-- Whether the codeword of the position is sound (R202). -/
def Bn.Sound (b : Bn) (n : CompId) (c : Cyc) : Prop :=
  mget (b.comp n.val).flips (memKey 2 (b.comp n.val).insBank (b.place c / 2)) 0 = 0

section Issue

variable {b : Bn} {n : CompId} {c : Cyc} {op : Nat} {f : IFields}

theorem Bn.issue_of_not_mayIssue {ok : Nat → Bool} (h : ¬ b.MayIssue n c) : b.issue n c ok f = .no b :=
  if_pos (Classical.not_not.mp h)

/-- Where the codeword can be read, what issues is what the position holds (R182). -/
theorem Bn.issue_of_mayIssue (hop : op < 64) (h : b.MayIssue n c) (hs : b.Sound n c) :
    b.issue n c (fun o => o == op) f =
      if mget (b.comp n.val).insLive (b.place c) 0 = insWord op f then
        if (b.compAt n c).cond f then .go (b.withIssue n c) (b.compAt n c) else .fails (b.withIssue n c)
      else .no b := by
  have hread : b.iread n.val (32 * (b.now % b.period) + c.val) = (b, mget (b.comp n.val).insLive (b.place c) 0) := Bn.iread_of_sound hs
  simp only [Bn.issue, hread]
  rw [if_neg h]
  by_cases hw : mget (b.comp n.val).insLive (b.place c) 0 = insWord op f
  · obtain ⟨hcode, hfields⟩ := (eq_insWord_iff hop _ f).mp hw
    rw [if_pos hw]
    exact if_neg (not_or.mpr ⟨by rw [hcode, beq_self_eq_true]; exact Bool.noConfusion, Classical.not_not.mpr hfields⟩)
  · rw [if_neg hw]
    rw [eq_insWord_iff hop, Classical.not_and_iff_not_or_not] at hw
    exact if_pos (hw.imp_left beq_eq_false_iff_ne.mpr)

/-- An instruction executes on the compositor that stands in its unit. -/
theorem Bn.comp_of_issue_go {ok : Nat → Bool} {b' : Bn} {k : Comp} (h : b.issue n c ok f = .go b' k) : b'.comp n.val = k := by
  simp only [Bn.issue] at h
  split at h
  · cases h
  · split at h
    · cases h
    · split at h
      · cases h
        exact Bn.comp_setComp _ _ _
      · cases h

end Issue

theorem Comp.pr_eq_getLsbD (k : Comp) (j : Nat) : k.pr j = k.p.getLsbD j := rfl

/-- R215: PSEL and PSENSE select the condition. -/
theorem Comp.cond_iff (k : Comp) (f : IFields) : k.cond f = true ↔
    if f.psense = false then f.psel = 0 ∨ k.p.getLsbD f.psel.toNat = true
    else if f.psel = 0 then k.p.getLsbD 0 = true else k.p.getLsbD f.psel.toNat = false := by
  by_cases hz : f.psel = 0#2
  · cases hs : f.psense <;> simp [Comp.cond, Comp.pr_eq_getLsbD, hz, hs]
  · obtain ⟨m, hm⟩ := Nat.exists_eq_succ_of_ne_zero (fun h => hz (BitVec.eq_of_toNat_eq h))
    cases hs : f.psense <;> simp [Comp.cond, Comp.pr_eq_getLsbD, hz, hs, hm]

/-! ### One instruction -/

theorem State.instr_of_no {s : State} {u : BnId} {n : CompId} {c : Cyc} {op : Nat} {f : IFields} {b : Bn}
    (h : (s.bn u).issue n c (fun o => o == op) f = .no b) (body : Bn → Comp → Bn × List (Nat × Dest)) :
    s.instr u n c op f body = s := by
  rw [State.instr, h]

theorem State.instr_of_fails {s : State} {u : BnId} {n : CompId} {c : Cyc} {op : Nat} {f : IFields} {b : Bn}
    (h : (s.bn u).issue n c (fun o => o == op) f = .fails b) (body : Bn → Comp → Bn × List (Nat × Dest)) :
    s.instr u n c op f body = s.setBn u b := by
  rw [State.instr, h]

theorem issued_opcode_lt (u : BnId) (n : CompId) (c : Cyc) (f : IFields) : ∀ p ∈ issued u n c f, p.1 < 64 := by
  simp [issued]

/-- Every row of the array's instructions executes as one instruction of its opcode. -/
theorem exec_issued (u : BnId) (n : CompId) (c : Cyc) (f : IFields) (s : State) :
    ∀ p ∈ issued u n c f, ∃ body, exec p.2 s = .next (s.instr u n c p.1 f body) := by
  simp only [issued, List.forall_mem_append, List.forall_mem_cons, List.not_mem_nil, false_implies, implies_true, and_true]
  and_intros
  all_goals exact ⟨_, rfl⟩

/-- Settles O30: the model's issue, read through `Bn.issue_of_mayIssue`, is the statement's `ready` and the word of the position; every row
of the array executes as one instruction of its opcode (`exec_issued`), so a failing condition leaves the noted issue alone and no issue
leaves the state. -/
theorem compositorIssue : Obligations.CompositorIssue := by
  intro s u n c f op i b place ready k b' holds hi
  have hop : op < 64 := issued_opcode_lt u n c f _ hi
  obtain ⟨body, hexec⟩ := exec_issued u n c f s _ hi
  have hissue : ready → mget (b.comp n.val).insLive place 0 = insWord op f →
      b.issue n c (fun o => o == op) f = if k.cond f then .go b' k else .fails b' := by
    rintro ⟨hrun, hclk, hused, hon, hcase, hcyc, hcur, hflip⟩ hw
    have hmay : b.MayIssue n c := by
      simp only [Bn.MayIssue, hrun, hclk, hused, hon, hcase, hcyc, Nat.not_le.mpr hcur, ne_eq, not_true_eq_false, Bool.false_eq_true,
        Bool.true_eq_false, or_self, not_false_eq_true]
    exact (Bn.issue_of_mayIssue hop hmay hflip).trans (if_pos hw)
  have hcond : k.cond f = true ↔ holds := Comp.cond_iff k f
  refine ⟨fun hr hw hh => ?goes, fun hr hw hh => ?fails, fun hno => ?nothing⟩
  case goes => exact (hissue hr hw).trans (if_pos (hcond.mpr hh))
  case fails => exact hexec.trans (congrArg _ (State.instr_of_fails ((hissue hr hw).trans (if_neg (mt hcond.mp hh))) body))
  case nothing =>
    have hidle : b.issue n c (fun o => o == op) f = .no b := by
      by_cases hmay : b.MayIssue n c
      · obtain ⟨hs, hw⟩ : b.Sound n c ∧ mget (b.comp n.val).insLive place 0 ≠ insWord op f := by
          obtain hrun | hused | hon | hcyc | h := hno
          · exact (hmay (.inl hrun)).elim
          · exact (hmay (.inr (.inr (.inl hused)))).elim
          · exact (hmay (.inr (.inr (.inr (.inl hon))))).elim
          · exact (hmay (.inr (.inr (.inr (.inr (.inr (.inl hcyc))))))).elim
          · exact h
        exact (Bn.issue_of_mayIssue hop hmay hs).trans (if_neg hw)
      · exact Bn.issue_of_not_mayIssue hmay
    exact hexec.trans (congrArg _ (State.instr_of_no hidle body))

/-- The one result of an instruction that leaves the unit as it is lands as R217 says: `d` is the model's expression of it, `dst` the
statement's. -/
theorem lands_of_exec {s : State} {u : BnId} {n : CompId} {c : Cyc} {op : Nat} {f : IFields} {i : Instr} {lat : Nat} {d dst : Comp → Dest}
    (h : exec i s = .next (s.instr u n c op f (fun b k => (b, [(lat, d k)])))) (hd : ∀ k, d k = dst k) :
    Lands s u n c op f i lat dst := by
  intro b k hgo
  rw [h, State.instr, show (s.bn u).issue n c (fun o => o == op) f = .go b k from hgo]
  simp only [List.foldl_cons, List.foldl_nil, Bn.comp_of_issue_go hgo, hd]

/-- The same for a result of latency 1 on gD. -/
theorem gives_of_exec {s : State} {u : BnId} {n : CompId} {c : Cyc} {op : Nat} {f : IFields} {i : Instr} {v : Comp → Word}
    {w : Word → Word → Word} (h : exec i s = .next (s.instr u n c op f (fun b k => (b, one f (v k)))))
    (hv : ∀ k, v k = w (k.wa f) (k.wb f)) : Gives s u n c op f i w :=
  lands_of_exec h fun k => congrArg (Dest.reg f.d.toNat) (hv k)

/-! ### Shifts (R223) -/

theorem shlW_eq (a : Word) (m : Nat) : shlW a m = a <<< m := by
  apply BitVec.eq_of_toNat_eq
  rw [shlW, wof, BitVec.toNat_ofNat, BitVec.toNat_shiftLeft, Nat.shiftLeft_eq]

theorem shrW_eq (a : Word) (m : Nat) : shrW a m = a >>> m := by
  apply BitVec.eq_of_toNat_eq
  simp only [shrW, wof, BitVec.toNat_ofNat, BitVec.toNat_ushiftRight, Nat.shiftRight_eq_div_pow]
  exact Nat.mod_eq_of_lt (Nat.lt_of_le_of_lt (Nat.div_le_self _ _) a.isLt)

theorem sraW_eq (a : Word) (m : Nat) : sraW a m = a.sshiftRight m := by
  rw [sraW, wrap20, BitVec.sshiftRight, Int.shiftRight_eq_div_pow, Int.natCast_pow, Int.fdiv_eq_ediv_of_nonneg]
  · rfl
  · exact Int.le_of_lt (Int.pow_pos (by decide))

/-! ### Fields (R224) -/

theorem fieldW_le (w4 : Nat) : fieldW w4 ≤ 20 := Nat.min_le_right _ _

theorem fieldW_pos (w4 : Nat) : 0 < fieldW w4 := by unfold fieldW; omega

/-- The mask of a field at bit 0 (R224). -/
def onesW (w : Nat) : Word := BitVec.ofNat 20 (2 ^ w - 1)

theorem toNat_onesW {w : Nat} (h : w ≤ 20) : (onesW w).toNat = 2 ^ w - 1 := by
  have := Nat.pow_le_pow_right (n := 2) (by decide) h
  have := Nat.two_pow_pos w
  simp only [onesW, BitVec.toNat_ofNat]
  exact Nat.mod_eq_of_lt (by omega)

theorem extU_eq (a : Word) (lo w4 : Nat) : extU a lo w4 = (a >>> lo) &&& onesW (fieldW w4) := by
  apply BitVec.eq_of_toNat_eq
  rw [BitVec.toNat_and, toNat_onesW (fieldW_le w4), Nat.and_two_pow_sub_one_eq_mod, ← shrW_eq, extU, wof, shrW, wof]
  have hq : a.toNat / 2 ^ lo < 2 ^ 20 := Nat.lt_of_le_of_lt (Nat.div_le_self _ _) a.isLt
  rw [BitVec.toNat_ofNat, BitVec.toNat_ofNat, Nat.mod_eq_of_lt hq, Nat.mod_eq_of_lt (Nat.lt_of_le_of_lt (Nat.mod_le _ _) hq)]

/-- A number of `w` bits from an integer is what the word of `w` bits holds. -/
theorem ofInt_eq_toNat (i : Int) (w : Nat) : ofInt i w = (BitVec.ofInt w i).toNat := by
  rw [BitVec.toNat_ofInt, ofInt]
  rw [Int.natCast_pow]
  rfl

/-- A number of `w` bits in two's complement is the signed value of its low `w` bits. -/
theorem sx_eq_toInt (v : Nat) {w : Nat} (h : 0 < w) : sx v w = (BitVec.ofNat w v).toInt := by
  obtain ⟨w, rfl⟩ : ∃ x, w = x + 1 := ⟨w - 1, by omega⟩
  simp only [sx, BitVec.toInt_eq_toNat_cond, BitVec.toNat_ofNat, Nat.add_sub_cancel]
  have : v % 2 ^ (w + 1) < 2 ^ w ↔ 2 * (v % 2 ^ (w + 1)) < 2 ^ (w + 1) := by rw [Nat.pow_succ]; omega
  simp only [this, Int.natCast_emod, Int.natCast_pow]
  rfl

/-- A field sign-extended is the field shifted to the top and back. -/
theorem signExtend_setWidth_eq (a : Word) {w : Nat} (hpos : 0 < w) (hle : w ≤ 20) :
    (a.setWidth w).signExtend 20 = (a <<< (20 - w)).sshiftRight (20 - w) := by
  apply BitVec.eq_of_getLsbD_eq
  intro i hi
  have hi' : ¬ 20 ≤ i := by omega
  have hin : 20 - w + i < 20 ↔ i < w := by omega
  have hlast : w - 1 < w := by omega
  simp only [BitVec.getLsbD_signExtend, BitVec.getLsbD_sshiftRight, BitVec.getLsbD_shiftLeft, BitVec.getLsbD_setWidth,
    BitVec.msb_eq_getLsbD_last, hin, hlast, hi, hi', decide_true, decide_false, Bool.not_false, Bool.true_and]
  by_cases h : i < w
  · have hback : 20 - w + i - (20 - w) = i := by omega
    have hin' : ¬ 20 - w + i < 20 - w := by omega
    simp only [h, hin', hback, if_true, decide_true, decide_false, Bool.not_false, Bool.true_and]
  · -- the sign stands at the top of the shifted word
    have hsign : 20 - 1 - (20 - w) = w - 1 := by omega
    have hin' : ¬ 20 - 1 < 20 - w := by omega
    rw [if_neg h, if_neg h, hsign, decide_eq_false hin']
    rfl

theorem extS_eq (a : Word) (lo w4 : Nat) :
    extS a lo w4 = ((a.sshiftRight lo) <<< (20 - fieldW w4)).sshiftRight (20 - fieldW w4) := by
  rw [← signExtend_setWidth_eq _ (fieldW_pos w4) (fieldW_le w4), ← sraW_eq, extS, ofInt_eq_toNat, sx_eq_toInt _ (fieldW_pos w4),
    BitVec.ofNat_toNat]
  rfl

theorem insF_eq (a b : Word) (lo w4 : Nat) :
    insF a b lo w4 = (b &&& ~~~ (onesW (fieldW w4) <<< lo)) ||| ((a <<< lo) &&& (onesW (fieldW w4) <<< lo)) := by
  rw [← shlW_eq, ← shlW_eq, shlW, shlW, toNat_onesW (fieldW_le w4)]
  rfl

/-! ### Leading zeros (R225) -/

theorem clz20_zero (m : Nat) : clz20 0 m = m := by
  induction m with
  | zero => rfl
  | succ m ih =>
    have hbit : ¬ wbit 0 m = true := ne_true_of_eq_false (Nat.zero_testBit m)
    rw [clz20, if_neg hbit, ih]

theorem clz20_of_ne_zero {a : Word} (h : a.toNat ≠ 0) {m : Nat} (hlt : a.toNat < 2 ^ m) : clz20 a m = m - 1 - a.toNat.log2 := by
  induction m with
  | zero => omega
  | succ m ih =>
    by_cases hm : a.toNat < 2 ^ m
    · have hlog : a.toNat.log2 < m := (Nat.log2_lt h).mpr hm
      have hbit : wbit a m = false := Nat.testBit_lt_two_pow hm
      rw [clz20, if_neg (ne_true_of_eq_false hbit), ih hm]
      omega
    · have hlog : a.toNat.log2 = m := (Nat.log2_eq_iff h).mpr ⟨by omega, hlt⟩
      have hbit : wbit a m = true := by rw [wbit, ← hlog]; exact Nat.testBit_log2 h
      rw [clz20, if_pos hbit]
      omega

theorem clz20_eq (a : Word) : wof (clz20 a 20) = if a = 0 then 20 else BitVec.ofNat 20 (19 - a.toNat.log2) := by
  split
  case isTrue h => rw [h, clz20_zero]; rfl
  case isFalse h =>
    have hne : a.toNat ≠ 0 := fun h0 => h (BitVec.eq_of_toNat_eq h0)
    rw [clz20_of_ne_zero hne a.isLt]
    rfl

/-! ### Compares and predicates (R226, R227) -/

theorem cmpCond_eq {code : Nat} (h : code < 8) (a b : Word) : cmpCond code a b = compares code a b :=
  match code, h with
  | 0, _ | 1, _ | 2, _ | 3, _ | 4, _ | 5, _ | 6, _ | 7, _ => rfl

theorem cmpMode_eq (mode : Nat) (old new : Bool) : cmpMode mode old new = combines mode old new :=
  match mode with
  | 0 | 1 | 2 => rfl
  | _ + 3 => by simp [cmpMode, combines]

theorem getLsbD_land_preds (k : Comp) {m : Nat} (v : Nat) (hm : m < 16) {i : Nat} (hi : i < 4) :
    (k.land (.preds m v)).p.getLsbD i = if m.testBit i then v.testBit i else k.p.getLsbD i := by
  have h15 : (15 - m).testBit i = !m.testBit i := by
    have := Nat.testBit_two_pow_sub_succ (n := 4) hm i
    simpa [hi, show 2 ^ 4 - (m + 1) = 15 - m by omega] using this
  simp only [Comp.land, Nat.mod_eq_of_lt hm, BitVec.getLsbD_ofNat, hi, decide_true, Bool.true_and, Nat.testBit_or, Nat.testBit_and, h15,
    BitVec.testBit_toNat]
  cases m.testBit i <;> simp

/-- Settles O32: each instruction lands one result (`lands_of_exec`), and the model's arithmetic on numbers is the statement's on words. -/
theorem compositorFieldsAndPredicates : Obligations.CompositorFieldsAndPredicates := by
  intro s u n c f im lo w ones j B
  have hcount (b : Word) : fld b 4 0 = b.toNat % 32 := bitsOf_low _ _
  have him : f.im 4 0 = im % 32 := bitsOf_low _ _
  have hcode : f.im 2 0 = im % 8 := bitsOf_low _ _
  have hsel : f.im 1 0 = im % 4 := bitsOf_low _ _
  have hvals : f.im 3 0 = im % 2 ^ 4 := bitsOf_low _ _
  have hmode : bitsOf f.b.toNat 1 0 = B % 4 := bitsOf_low _ _
  have hcodei : bitsOf f.b.toNat 4 2 = B / 4 := Nat.mod_eq_of_lt (by have := f.b.isLt; omega)
  have hj : bitsOf f.d.toNat 1 0 = j := bitsOf_low _ _
  refine ⟨?shl, ?shr, ?sra, ?shli, ?shri, ?srai, ?ext, ?exts, ?ins, ?clz, ?cmp, ?cmpi, ?sel, ?pset, ?preds⟩
  case shl => exact gives_of_exec rfl fun k => by rw [shlW_eq, hcount]
  case shr => exact gives_of_exec rfl fun k => by rw [shrW_eq, hcount]
  case sra => exact gives_of_exec rfl fun k => by rw [sraW_eq, hcount]
  case shli => exact gives_of_exec rfl fun k => by rw [shlW_eq, him]
  case shri => exact gives_of_exec rfl fun k => by rw [shrW_eq, him]
  case srai => exact gives_of_exec rfl fun k => by rw [sraW_eq, him]
  case ext => exact gives_of_exec rfl fun k => by rw [extU_eq, him]; rfl
  case exts => exact gives_of_exec rfl fun k => by rw [extS_eq, him]; rfl
  case ins => exact gives_of_exec rfl fun k => by rw [insF_eq, him]; rfl
  case clz => exact gives_of_exec rfl fun k => clz20_eq _
  case cmp =>
    refine lands_of_exec rfl fun k => ?_
    rw [cmpMode_eq, hj, hcode, cmpCond_eq (Nat.mod_lt _ (by decide))]
    rfl
  case cmpi =>
    refine lands_of_exec rfl fun k => ?_
    rw [cmpMode_eq, hj, hmode, hcodei, cmpCond_eq (by have := f.b.isLt; omega)]
    rfl
  case sel => exact lands_of_exec rfl fun k => by rw [hsel]; rfl
  case pset => exact lands_of_exec rfl fun k => by rw [hvals]; rfl
  case preds => exact fun k m v hm i hi => getLsbD_land_preds k v hm hi

end Sys2Proof.Machine
end

/-! The fast codes ACK (R407) and IMPRESS_GO (R452): the point that an ACK names, the effect of each code on its unit, and what the
arming of a bank leaves alone (R451). -/

section

namespace Sys2Proof.Machine

open Sys2Proof.Claims

theorem onlyUnit_setBn (s : State) (u : BnId) (b : Bn) : OnlyUnit u s (s.setBn u b) :=
  ⟨s.setBn_variant u b, s.setBn_gradeH u b, s.bn_setBn_other u b, s.setBn_fvs u b, s.setBn_blankPin u b, s.setBn_trstPin u b,
    s.setBn_pending u b⟩

/-- A fast code on a unit that hears it: its effect, and nothing else. -/
theorem State.fastRow_of_hears {s : State} {u : BnId} (h : Hears s u) (f : Bn → Bn) : s.fastRow u f = s.setBn u (f (s.bn u)) := by
  obtain ⟨hhas, hdown, hdev, hentry⟩ := h
  exact s.fastRow_awake u f hhas hdown hdev hentry

/-! ### ACK (R407) -/

theorem exec_ack_of_hears {s : State} {u : BnId} (h : Hears s u) (arg : BitVec 8) :
    exec (.ack u arg) s = .next (s.setBn u ((s.bn u).fcAck (s.variant == .sln2) arg.toNat)) := by
  rw [exec_ack, execAck, State.fastRow_of_hears h]

/-- The sequence that the model computes from the newest one is the one at most 2^16 - 1 behind it with the low bits `low`. -/
theorem eq_newest_of_low {newest p : Word} {low : Nat} (hlow : p.toNat % 2 ^ 16 = low) (hback : (newest - p).toNat < 2 ^ 16) :
    wof (newest.toNat + 2 ^ 20 - (newest.toNat + 2 ^ 20 - low) % 65536) = p := by
  have hp := p.isLt
  have hn := newest.isLt
  have hdist : (newest.toNat + 2 ^ 20 - low) % 65536 = (newest - p).toNat := by
    rw [BitVec.toNat_sub] at hback ⊢
    omega
  apply BitVec.eq_of_toNat_eq
  rw [hdist, wof, BitVec.toNat_ofNat]
  rw [BitVec.toNat_sub] at hback ⊢
  omega

theorem older_iff {a b : Word} : older a b = true ↔ 0 < (b - a).toNat ∧ (b - a).toNat < 2 ^ 19 := by
  rw [older, Bool.and_eq_true, decide_eq_true_iff, decide_eq_true_iff]

/-- In SLN-2, or with no data sheet stored, an ACK has no effect. -/
theorem Bn.fcAck_of_ignored {b : Bn} {sln2 : Bool} (h : sln2 = true ∨ b.rd 0x2C1D = 0) (arg : Nat) : b.fcAck sln2 arg = b :=
  if_pos h

/-- With a data sheet stored, ACK_SEQ becomes the acknowledged point where that is newer. -/
theorem Bn.fcAck_of_stored {b : Bn} {arg : Nat} {p : Word} (hstored : b.rd 0x2C1D ≠ 0) (harg : arg < 256)
    (hlow : p.toNat % 2 ^ 16 = arg * 256 + 255) (hback : (b.rd 0x2C1C - p).toNat < 2 ^ 16) :
    b.fcAck false arg =
      if 0 < (p - b.rd 0x2008).toNat ∧ (p - b.rd 0x2008).toNat < 2 ^ 19 then b.wr 0x2008 p else b := by
  have hactive : ¬ (false = true ∨ b.rd 0x2C1D = 0) := not_or.mpr ⟨Bool.false_ne_true, hstored⟩
  simp only [Bn.fcAck, Nat.mod_eq_of_lt harg, eq_newest_of_low hlow hback, older_iff]
  exact if_neg hactive

/-! ### The arming of a bank (R451) -/

/-- An entry that ends leaves the staged bank as it is but for its mark of a restore (R418). -/
theorem Bn.endEntry_stage (b : Bn) (reason : Nat) : ∃ r, (b.endEntry reason).stage = { b.stage with restoreArmed := r } := by
  simp only [Bn.endEntry]
  split
  · exact ⟨b.stage.restoreArmed, rfl⟩
  · split
    · exact ⟨false, rfl⟩
    · exact ⟨b.stage.restoreArmed, rfl⟩

theorem Bn.endEntry_regs (b : Bn) (reason : Nat) : (b.endEntry reason).regs = b.regs := by
  simp only [Bn.endEntry]
  split
  · rfl
  · split <;> rfl

/-- The unit whose bank and, where it is included, forme are armed: `Bn.arm` before an entry under way ends. -/
def Bn.armBank (b : Bn) (n tag : Nat) : Bn :=
  let armed := b.mapStage (fun s => { s with st := .armed, armedN := n, armedTag := tag })
  if b.stage.formeIn then armed.mapLoader (fun l => { l with st := .armed }) else armed

theorem Bn.arm_eq (b : Bn) (n tag : Nat) : b.arm n tag = if b.holds then (b.armBank n tag).endEntry 4 else b.armBank n tag := rfl

theorem Bn.armBank_stage (b : Bn) (n tag : Nat) :
    (b.armBank n tag).stage = { b.stage with st := .armed, armedN := n, armedTag := tag } := by
  unfold Bn.armBank
  split <;> rfl

theorem Bn.armBank_regs (b : Bn) (n tag : Nat) : (b.armBank n tag).regs = b.regs := by
  unfold Bn.armBank
  split <;> rfl

theorem Bn.arm_stage (b : Bn) (n tag : Nat) :
    ∃ r, (b.arm n tag).stage = { b.stage with st := .armed, armedN := n, armedTag := tag, restoreArmed := r } := by
  rw [Bn.arm_eq]
  split
  · obtain ⟨r, hr⟩ := (b.armBank n tag).endEntry_stage 4
    exact ⟨r, by rw [hr, Bn.armBank_stage]⟩
  · exact ⟨b.stage.restoreArmed, b.armBank_stage n tag⟩

theorem Bn.arm_regs (b : Bn) (n tag : Nat) : (b.arm n tag).regs = b.regs := by
  rw [Bn.arm_eq]
  split
  · rw [Bn.endEntry_regs, Bn.armBank_regs]
  · exact b.armBank_regs n tag

/-! ### IMPRESS_GO (R452) -/

theorem exec_impressGo_of_hears {s : State} {u : BnId} (h : Hears s u) (arg : BitVec 8) :
    exec (.impressGo u arg) s = .next (s.setBn u ((s.bn u).fcGo arg.toNat)) := by
  rw [exec_impressGo, execImpressGo, State.fastRow_of_hears h]

/-- The argument names the PROVED bank by its GO_TAG. -/
def Bn.GoNamed (b : Bn) (arg : Nat) : Prop := b.stage.st = .proved ∧ arg % 64 = b.stage.goTag

/-- A FULL forme is included and acquisition is not idle (R261). -/
def Bn.FullBlocked (b : Bn) : Prop := b.stage.formeIn = true ∧ b.loader.cls = 0 ∧ b.acq.phase ≠ .idle

/-- An IMPRESS_GO arms the bank (R452): FV content is armed by the lease holder alone. -/
def Bn.GoAllowed (b : Bn) (arg : Nat) : Prop :=
  b.GoNamed arg ∧ ¬ b.FullBlocked ∧ (b.stage.fvDies = [] ∨ b.holds = true)

theorem Bn.goNamed_iff {b : Bn} {arg : Nat} :
    (decide (b.stage.st = .proved) && arg % 64 == b.stage.goTag) = true ↔ b.GoNamed arg := by
  rw [Bool.and_eq_true, decide_eq_true_iff, beq_iff_eq, Bn.GoNamed]

theorem Bn.fullBlocked_iff {b : Bn} : (b.fullIn && b.acq.phase != .idle) = true ↔ b.FullBlocked := by
  rw [Bn.fullIn, Bool.and_eq_true, Bool.and_eq_true, beq_iff_eq, bne_iff_ne, and_assoc, Bn.FullBlocked]

theorem Bn.fvContent_eq_false_iff {b : Bn} : b.fvContent = false ↔ b.stage.fvDies = [] := by
  rw [Bn.fvContent, Bool.not_eq_false', List.isEmpty_iff]

theorem Bn.goAllowed_iff {b : Bn} {arg : Nat} :
    ((decide (b.stage.st = .proved) && arg % 64 == b.stage.goTag) = true ∧ (b.fullIn && b.acq.phase != .idle) = false ∧
      (b.fvContent = false ∨ b.holds = true)) ↔ b.GoAllowed arg := by
  rw [Bn.goNamed_iff, ← Bool.not_eq_true (b.fullIn && _), Bn.fullBlocked_iff, Bn.fvContent_eq_false_iff, Bn.GoAllowed]

theorem Bn.fcGo_of_allowed {b : Bn} {arg : Nat} (h : b.GoAllowed arg) : b.fcGo arg = b.arm (b.now + 64) (arg % 64) :=
  if_pos (Bn.goAllowed_iff.mpr h)

/-- A FULL forme while acquisition is not idle: counted, and GO_REFUSED is set. -/
theorem Bn.fcGo_of_fullBlocked {b : Bn} {arg : Nat} (hnamed : b.GoNamed arg) (hfull : b.FullBlocked) :
    b.fcGo arg = { b.wr 0x080F (satAdd (b.rd 0x080F) 1 20) with loader := { b.loader with goRefused := true } } := by
  have hnot : ¬ b.GoAllowed arg := fun ⟨_, hfree, _⟩ => hfree hfull
  exact (if_neg (mt Bn.goAllowed_iff.mp hnot)).trans (if_pos ⟨Bn.goNamed_iff.mpr hnamed, Bn.fullBlocked_iff.mpr hfull⟩)

/-- A code that R451 does not allow for another reason: counted alone. -/
theorem Bn.fcGo_of_missed {b : Bn} {arg : Nat} (hnot : ¬ b.GoAllowed arg) (hfull : ¬ (b.GoNamed arg ∧ b.FullBlocked)) :
    b.fcGo arg = b.wr 0x080F (satAdd (b.rd 0x080F) 1 20) :=
  (if_neg (mt Bn.goAllowed_iff.mp hnot)).trans (if_neg (mt (And.imp Bn.goNamed_iff.mp Bn.fullBlocked_iff.mp) hfull))

/-- Settles O10: an ACK through the point it names (`eq_newest_of_low`), an IMPRESS_GO through its three outcomes (`Bn.fcGo_of_allowed`,
`Bn.fcGo_of_missed`, `Bn.fcGo_of_fullBlocked`) and what an arming leaves alone (`Bn.arm_stage`, `Bn.arm_regs`). -/
theorem ackAndGoCodes : Obligations.AckAndGoCodes := by
  unfold Obligations.AckAndGoCodes
  refine ⟨⟨?stored, ?ignored⟩, ?go⟩
  case stored =>
    intro s u arg p hears hvar hstored hlow hback
    rw [exec_ack_of_hears hears, beq_eq_false_iff_ne.mpr hvar, Bn.fcAck_of_stored hstored arg.isLt hlow hback, apply_ite (s.setBn u),
      State.setBn_bn]
  case ignored =>
    intro s u arg hears hignored
    rw [exec_ack_of_hears hears, Bn.fcAck_of_ignored (hignored.imp_left beq_iff_eq.mpr), State.setBn_bn]
  case go =>
    intro s u arg hears b named full allowed
    have hexec := exec_impressGo_of_hears hears arg
    refine ⟨fun hallowed => ?armed, fun hnot hfull => ?missed, fun hnamed hfull => ?refused⟩
    case armed =>
      have hgo : exec (.impressGo u arg) s = .next (s.setBn u (b.arm (b.now + 64) (arg.toNat % 64))) := by
        rw [hexec, Bn.fcGo_of_allowed hallowed]
      obtain ⟨r, hstage⟩ := b.arm_stage (b.now + 64) (arg.toNat % 64)
      refine ⟨_, hgo, onlyUnit_setBn s u _, ?_⟩
      rw [State.bn_setBn, hstage, Bn.arm_regs]
      exact ⟨rfl, rfl, rfl, rfl, rfl⟩
    case missed => rw [hexec, Bn.fcGo_of_missed hnot hfull]
    case refused => rw [hexec, Bn.fcGo_of_fullBlocked hnamed hfull]

end Sys2Proof.Machine
end

/-! The housekeeping converter: the grid of its output samples (R496), what a control-path mark leaves alone (R294), and what an output
sample does to its unit (R500, R507, R508, R515, R525-R527). -/

section

namespace Sys2Proof.Machine

open Sys2Proof.Claims

/-! ### The grid (R496) -/

/-- Instant `j` of a second comes at or after `r` when `j` is at least the rounded-up share of `r`. -/
theorem le_gridStep_iff {rate : Nat} (h : 0 < rate) (r j : Nat) :
    r ≤ j * tkSec / rate ↔ (r * rate + tkSec - 1) / tkSec ≤ j := by
  have hceil : (r * rate + tkSec - 1) / tkSec ≤ j ↔ r * rate + tkSec - 1 < (j + 1) * tkSec :=
    Nat.lt_succ_iff.symm.trans (Nat.div_lt_iff_lt_mul (by decide))
  rw [Nat.le_div_iff_mul_le h, hceil, Nat.succ_mul]
  have : 0 < tkSec := by decide
  omega

theorem gridStep_lt {rate j : Nat} (h : j < rate) : j * tkSec / rate < tkSec := by
  rw [Nat.div_lt_iff_lt_mul (by omega), Nat.mul_comm tkSec]
  exact Nat.mul_lt_mul_of_pos_right h (by decide)

/-- The next instant lies in the second of `t`, or opens the one after it. -/
theorem gridNext_eq (rate t : Nat) : gridNext rate t =
    if rate ≤ (t % tkSec * rate + tkSec - 1) / tkSec then (t / tkSec + 1) * tkSec
    else t / tkSec * tkSec + (t % tkSec * rate + tkSec - 1) / tkSec * tkSec / rate := rfl

theorem le_gridNext {rate : Nat} (h : 0 < rate) (t : Nat) : t ≤ gridNext rate t := by
  have hsec : t / tkSec * tkSec + t % tkSec = t := Nat.div_add_mod' t tkSec
  have hrem : t % tkSec < tkSec := Nat.mod_lt _ (by decide)
  rw [gridNext_eq]
  split
  · rw [Nat.succ_mul]
    omega
  · have := (le_gridStep_iff h (t % tkSec) _).mpr (Nat.le_refl _)
    omega

theorem exists_gridNext_eq {rate : Nat} (h : 0 < rate) (t : Nat) :
    ∃ sec j, j < rate ∧ gridNext rate t = sec * tkSec + j * tkSec / rate := by
  rw [gridNext_eq]
  split
  · exact ⟨t / tkSec + 1, 0, h, by simp only [Nat.zero_mul, Nat.zero_div, Nat.add_zero]⟩
  case isFalse hj => exact ⟨t / tkSec, _, Nat.not_le.mp hj, rfl⟩

/-- No instant of the grid lies between a time and the next instant. -/
theorem gridNext_le {rate t sec j : Nat} (hj : j < rate) (ht : t ≤ sec * tkSec + j * tkSec / rate) :
    gridNext rate t ≤ sec * tkSec + j * tkSec / rate := by
  have hrate : 0 < rate := by omega
  have hsec : t / tkSec * tkSec + t % tkSec = t := Nat.div_add_mod' t tkSec
  have hstep := gridStep_lt hj
  have hle : t / tkSec ≤ sec := by
    refine Nat.lt_succ_iff.mp ((Nat.div_lt_iff_lt_mul (by decide)).mpr ?_)
    rw [Nat.succ_mul]
    omega
  rw [gridNext_eq]
  obtain rfl | hlater := Nat.eq_or_lt_of_le hle
  · have hshare := (le_gridStep_iff hrate (t % tkSec) j).mp (by omega)
    rw [if_neg (by omega)]
    exact Nat.add_le_add_left (Nat.div_le_div_right (Nat.mul_le_mul_right _ hshare)) _
  · refine Nat.le_trans ?_ (Nat.le_trans (Nat.mul_le_mul_right tkSec hlater) (Nat.le_add_right _ _))
    split
    · exact Nat.le_refl _
    case isFalse hin =>
      rw [Nat.succ_mul]
      exact Nat.add_le_add_left (Nat.le_of_lt (gridStep_lt (Nat.not_le.mp hin))) _

/-! ### Control-path marks (R294) -/

/-- The die without its galley, the marks counted and the words below 3000h: what a write to a queue leaves alone. -/
def Bn.unqueued (b : Bn) : Bn × (Nat → Word) :=
  ({ b with regs := [], gal := .empty, marksIn := 0 }, fun k => b.rd (0x3000 + k))

theorem Bn.unqueued_wr (b : Bn) {o : Nat} (v : Word) (h : o < 0x3000) : (b.wr o v).unqueued = b.unqueued :=
  Prod.ext rfl (funext fun _ => b.rd_wr_ne v (by omega))

theorem Bn.unqueued_wrN (b : Bn) {o : Nat} (n : Nat) (h : o < 0x3000) : (b.wrN o n).unqueued = b.unqueued := b.unqueued_wr _ h

theorem Bn.unqueued_bump (b : Bn) {o : Nat} (h : o < 0x3000) : (b.bump o).unqueued = b.unqueued := b.unqueued_wr _ h

theorem Bn.unqueued_bit (b : Bn) {o : Nat} (i : Nat) (v : Bool) (h : o < 0x3000) : (b.bit o i v).unqueued = b.unqueued :=
  b.unqueued_wr _ h

theorem Bn.unqueued_marksIn (b : Bn) (n : Nat) : Bn.unqueued { b with marksIn := n } = b.unqueued := (rfl)
@[simp] theorem Bn.unqueued_mapGal (b : Bn) (f : Galley → Galley) : (b.mapGal f).unqueued = b.unqueued := (rfl)
@[simp] theorem Bn.unqueued_setQueue (b : Bn) (q : Nat) (x : Queue) : (b.setQueue q x).unqueued = b.unqueued := (rfl)
@[simp] theorem Bn.unqueued_setCell (b : Bn) (a : Nat) (c : Cell) : (b.setCell a c).unqueued = b.unqueued := (rfl)

theorem Bn.unqueued_outcome (b : Bn) (o : Outcome4) (kind cell : Nat) : (b.outcome o kind cell).unqueued = b.unqueued := by
  cases o with
  | clean => rfl
  | corrected => exact b.unqueued_bump (by decide)
  | uncorrectable | addressFault =>
    rw [Bn.outcome, Bn.unqueued_bit _ _ _ (by decide), Bn.unqueued_wrN _ _ (by decide), Bn.unqueued_bump _ (by decide)]

@[simp] theorem Bn.unqueued_followLink (b : Bn) (cell : Nat) : (b.followLink cell).1.unqueued = b.unqueued := b.unqueued_outcome ..

@[simp] theorem Bn.unqueued_leak (b : Bn) (k : Nat) : (b.leak k).unqueued = b.unqueued := by
  rw [Bn.leak, Bn.unqueued_mapGal, Bn.unqueued_bump _ (by decide)]

@[simp] theorem Bn.unqueued_alloc (b : Bn) : b.alloc.1.unqueued = b.unqueued := by
  unfold Bn.alloc
  split
  case h_1 head tail _ =>
    by_cases hlast : tail.isEmpty = true
    · simp only [hlast, if_true, Bn.unqueued_mapGal]
    · simp only [hlast, if_false, Bool.false_eq_true]
      split <;> simp only [Bn.unqueued_mapGal, Bn.unqueued_leak, Bn.unqueued_followLink]
  case h_2 => split <;> rfl

theorem Bn.unqueued_foldl {α : Type} (l : List α) (f : Bn → α → Bn) (h : ∀ b a, (f b a).unqueued = b.unqueued) (b : Bn) :
    (l.foldl f b).unqueued = b.unqueued := by
  induction l generalizing b with
  | nil => rfl
  | cons a t ih => rw [List.foldl_cons, ih, h]

section Queue

variable {q : Nat} (hq : q < 64)
include hq

theorem Bn.unqueued_qCount (b : Bn) (hi lo : Nat) : (b.qCount q hi lo).unqueued = b.unqueued :=
  b.unqueued_wr _ (by unfold qStat; omega)

theorem Bn.unqueued_refuse (b : Bn) : (b.refuse q).unqueued = b.unqueued := b.unqueued_qCount hq ..

theorem Bn.unqueued_qBit (b : Bn) (i : Nat) (v : Bool) : (b.bit (qStat q) i v).unqueued = b.unqueued :=
  b.unqueued_bit _ _ (by unfold qStat; omega)

theorem Bn.unqueued_marks (b : Bn) : (b.marks q).unqueued = b.unqueued := by
  simp only [Bn.marks]
  split
  · exact Bn.unqueued_qCount hq ..
  · split <;> rfl

/-- A double is stored in the half of the last cell, or in a cell taken from the free list. -/
theorem Bn.unqueued_append (b : Bn) (d : Dbl) (fin : Bool) (vis : Nat) : (b.append q d fin vis).unqueued = b.unqueued := by
  have halloc := b.unqueued_alloc
  simp only [Bn.append]
  split
  · split
    · rfl
    · split
      case h_1 h => rw [h] at halloc; rw [Bn.unqueued_marks hq, Bn.unqueued_setCell, Bn.unqueued_setQueue, halloc]
      case h_2 h => rwa [h] at halloc
  · split
    case h_1 h => rw [h] at halloc; rw [Bn.unqueued_marks hq, Bn.unqueued_setCell, Bn.unqueued_setQueue, halloc]
    case h_2 h => rwa [h] at halloc

theorem Bn.unqueued_qWrite (b : Bn) (d : Dbl) (fin svc : Bool) (vis : Nat) :
    (b.qWrite q d fin svc vis).1.unqueued = b.unqueued := by
  have hmode (m : ItemMode) : (if fin = true then b.setQueue q { b.queue q with mode := m } else b).unqueued = b.unqueued := by
    split <;> rfl
  simp only [Bn.qWrite]
  split
  · exact b.unqueued_refuse hq
  · split
    · rw [Bn.unqueued_qCount hq, hmode]
    · rw [Bn.unqueued_refuse hq, hmode]
    · rw [Bn.unqueued_refuse hq, hmode]
    · split
      · split
        · rw [Bn.unqueued_qBit hq, Bn.unqueued_refuse hq, Bn.unqueued_setQueue]
        · split
          · split <;> simp only [Bn.unqueued_mapGal, Bn.unqueued_bit _ _ _ (show 0x2C01 < 0x3000 by decide), Bn.unqueued_qBit hq,
              Bn.unqueued_refuse hq, Bn.unqueued_setQueue]
          · exact b.unqueued_append hq ..
      · exact b.unqueued_append hq ..

theorem Bn.unqueued_of_qItem {b c : Bn} {ds : List Dbl} (h : b.qItem q ds = some c) : c.unqueued = b.unqueued := by
  simp only [Bn.qItem] at h
  split at h
  · cases h
    exact Bn.unqueued_foldl _ _ (fun b p => b.unqueued_qWrite hq ..) b
  · cases h

end Queue

/-- A control-path mark moves its queue alone, whether it is taken or dropped. -/
theorem Bn.unqueued_ctlMark (b : Bn) (ws : List Word) : (b.ctlMark ws).unqueued = b.unqueued := by
  unfold Bn.ctlMark
  split
  case h_1 h => exact (Bn.unqueued_marksIn ..).trans (Bn.unqueued_of_qItem (by decide) h)
  case h_2 => exact Bn.unqueued_refuse (q := 34) (by decide) b

theorem Bn.hkc_of_unqueued {b c : Bn} (h : c.unqueued = b.unqueued) : c.hkc = b.hkc := congrArg (fun x => x.1.hkc) h
theorem Bn.therm_of_unqueued {b c : Bn} (h : c.unqueued = b.unqueued) : c.therm = b.therm := congrArg (fun x => x.1.therm) h
theorem Bn.power_of_unqueued {b c : Bn} (h : c.unqueued = b.unqueued) : c.power = b.power := congrArg (fun x => x.1.power) h

theorem Bn.rd_of_unqueued {b c : Bn} (h : c.unqueued = b.unqueued) {o : Nat} (ho : 0x3000 ≤ o) : c.rd o = b.rd o := by
  obtain ⟨k, rfl⟩ := Nat.exists_eq_add_of_le ho
  exact congrFun (congrArg Prod.snd h) k

/-! ### Alerts (R538) -/

theorem Bn.unqueued_alertSync (b : Bn) (entry : Nat) :
    (b.alertSync entry).unqueued = (b.mapTherm (fun t => { t with alert := b.alertWord })).unqueued := by
  simp only [Bn.alertSync]
  split
  · rfl
  · exact Bn.unqueued_ctlMark ..

theorem Bn.alertBit_hkc (b : Bn) (i entry : Nat) : (b.alertBit i entry).hkc = b.hkc := by
  rw [Bn.alertBit, Bn.hkc_of_unqueued (Bn.unqueued_alertSync ..), Bn.mapTherm_hkc, Bn.bit_hkc]

theorem Bn.alertBit_power (b : Bn) (i entry : Nat) : (b.alertBit i entry).power = b.power := by
  rw [Bn.alertBit, Bn.power_of_unqueued (Bn.unqueued_alertSync ..), Bn.mapTherm_power, Bn.bit_power]

theorem Bn.rd_alertBit (b : Bn) (i entry : Nat) {o : Nat} (ho : 0x3000 ≤ o) :
    (b.alertBit i entry).rd o = if o = 0x3401 then setFld (b.rd 0x3401) i i (b2n true) else b.rd o := by
  rw [Bn.alertBit, Bn.rd_of_unqueued (Bn.unqueued_alertSync ..) ho, Bn.rd_mapTherm, Bn.rd_bit]

theorem Bn.rd_alertBit_ne (b : Bn) (i entry : Nat) {o : Nat} (ho : 0x3000 ≤ o) (hne : o ≠ 0x3401) :
    (b.alertBit i entry).rd o = b.rd o := (b.rd_alertBit i entry ho).trans (if_neg hne)

theorem Bn.wbit_rd_alertBit (b : Bn) {i : Nat} (entry : Nat) (hi : i < 20) : wbit ((b.alertBit i entry).rd 0x3401) i = true := by
  rw [Bn.rd_alertBit _ _ _ (by decide), if_pos rfl, wbit_setFld_self _ _ _ hi]

/-! ### Urgent requests (R512) -/

/-- A conversion that has met an urgent request for its entry, or not. -/
def Conv.meet (c : Conv) (m : Bool) : Conv := { c with met := c.met || m }

/-- The converter after a request: the conversion met it or not, and the queue. -/
def Hkc.requested (h : Hkc) (m : Bool) (urg : List (Nat × Nat)) : Hkc := { h with conv := h.conv.map (·.meet m), urg := urg }

/-- A request is dropped: URG_OVF is set, URG_DROP_CNT counts it. -/
def Bn.urgDropped (b : Bn) : Bn := (b.bit 0x3000 8 true).bump 0x3008

/-- All that an urgent request can do to its unit. -/
def Bn.Requested (b b' : Bn) : Prop :=
  ∃ m urg w, (w = b ∨ w = b.urgDropped) ∧ b' = w.mapHkc (fun h => h.requested m urg)

theorem Hkc.requested_self (h : Hkc) : h.requested false h.urg = h := by
  have hmeet : (fun c : Conv => c.meet false) = id := funext fun c => by rw [Conv.meet, Bool.or_false, id]
  rw [Hkc.requested, hmeet, Option.map_id_fun, id]

theorem Hkc.requested_queue (h : Hkc) (urg : List (Nat × Nat)) : { h with urg := urg } = h.requested false urg :=
  congrArg (fun k : Hkc => { k with urg := urg }) h.requested_self.symm

theorem Bn.requested_of_queue {b w : Bn} (h : w = b ∨ w = b.urgDropped) (urg : List (Nat × Nat)) :
    b.Requested (w.mapHkc (fun h => { h with urg := urg })) :=
  ⟨false, urg, w, h, congrArg (fun k => { w with hkc := k }) (Hkc.requested_queue ..)⟩

theorem Bn.requested_of_eq {b w : Bn} (h : w = b ∨ w = b.urgDropped) : b.Requested w := Bn.requested_of_queue h w.hkc.urg

theorem Bn.urgRequest_requested (b : Bn) (prio e : Nat) : b.Requested (b.urgRequest prio e).1 := by
  unfold Bn.urgRequest
  extract_lets q drop running
  split
  · exact Bn.requested_of_eq (.inl rfl)
  · split
    · exact ⟨true, b.hkc.urg, b, .inl rfl, by simp only [Bn.mapHkc, Hkc.requested, Conv.meet, Bool.or_true]⟩
    · split
      · exact Bn.requested_of_queue (.inl rfl) _
      · split
        · split
          · exact Bn.requested_of_queue (.inr rfl) _
          · exact Bn.requested_of_eq (.inr rfl)
        · split
          · exact Bn.requested_of_eq (.inr rfl)
          · exact Bn.requested_of_eq (.inl rfl)

namespace Bn.Requested

variable {b b' : Bn} (h : b.Requested b')
include h

theorem power : b'.power = b.power := by
  obtain ⟨m, urg, w, rfl | rfl, rfl⟩ := h
  · rw [Bn.mapHkc_power]
  · rw [Bn.mapHkc_power, Bn.urgDropped, Bn.bump_power, Bn.bit_power]

theorem hkc : ∃ m urg, b'.hkc = b.hkc.requested m urg := by
  obtain ⟨m, urg, w, rfl | rfl, rfl⟩ := h
  · exact ⟨m, urg, Bn.mapHkc_hkc ..⟩
  · exact ⟨m, urg, by rw [Bn.mapHkc_hkc, Bn.urgDropped, Bn.bump_hkc, Bn.bit_hkc]⟩

theorem rd {o : Nat} (hstat : o ≠ 0x3000) (hdrop : o ≠ 0x3008) : b'.rd o = b.rd o := by
  obtain ⟨m, urg, w, rfl | rfl, rfl⟩ := h
  · rw [Bn.rd_mapHkc]
  · rw [Bn.rd_mapHkc, Bn.urgDropped, Bn.rd_bump, if_neg hdrop, Bn.rd_bit, if_neg hstat]

theorem wbit_rd {j : Nat} (hj : j < 20) (hovf : j ≠ 8) : wbit (b'.rd 0x3000) j = wbit (b.rd 0x3000) j := by
  obtain ⟨m, urg, w, rfl | rfl, rfl⟩ := h
  · rw [Bn.rd_mapHkc]
  · rw [Bn.rd_mapHkc, Bn.urgDropped, Bn.rd_bump, if_neg (by decide), Bn.rd_bit, if_pos rfl, wbit_setFld_ne _ _ hj hovf]

end Bn.Requested

/-- A request for an entry that is not being converted is queued while the queue has room. -/
theorem Bn.mem_urgRequest {b : Bn} (prio : Nat) {e : Nat} (hconv : ∀ c, b.hkc.conv = some c → c.entry ≠ e)
    (hroom : b.hkc.urg.length < 4) : ∃ p, (p, e) ∈ (b.urgRequest prio e).1.hkc.urg := by
  unfold Bn.urgRequest
  extract_lets q drop running
  have hidle : ¬ running = true := by
    cases hc : b.hkc.conv with
    | none => simp only [running, hc, Bool.false_eq_true, not_false_eq_true]
    | some c => simp only [running, hc, beq_eq_false_iff_ne.mpr (hconv c hc), Bool.false_and, Bool.false_eq_true, not_false_eq_true]
  by_cases hqueued : q.any (fun r => r.2 == e) = true
  · rw [if_pos hqueued]
    obtain ⟨⟨p, x⟩, hmem, hx⟩ := List.any_eq_true.mp hqueued
    obtain rfl : x = e := beq_iff_eq.mp hx
    exact ⟨p, hmem⟩
  · rw [if_neg hqueued, if_neg hidle, if_pos hroom]
    exact ⟨prio, List.mem_append_right _ List.mem_cons_self⟩

/-! ### The checks of a sample (R515, R525, R526) -/

/-- A sample outside the window of its GUARD entry is counted. -/
def Bn.guardCounted (b : Bn) : Bn := (b.bit 0x3000 15 true).bump 0x300D

/-- At the first one of a dwell an entry with URG_EN asks for its target. -/
def Bn.guardAsk (b : Bn) (c : Conv) : Bn :=
  if wbit (c.w 2) 8 = true ∧ c.asked = false then (b.urgRequest 1 (fld (c.w 2) 5 0)).1 else b

theorem Bn.guardAsk_requested (b : Bn) (c : Conv) : b.Requested (b.guardAsk c) := by
  unfold Bn.guardAsk
  split
  · exact Bn.urgRequest_requested ..
  · exact Bn.requested_of_eq (.inl rfl)

/-- DIE_MAX after a sample of a DIE entry. -/
def Bn.notePeak (b : Bn) (y : Int) : Bn := if (b.rd 0x340D).toInt < y then b.wrN 0x340D (ofInt y 20) else b

theorem Bn.notePeak_power (b : Bn) (y : Int) : (b.notePeak y).power = b.power := by
  unfold Bn.notePeak; split <;> rfl

theorem Bn.rd_notePeak_ne (b : Bn) (y : Int) {o : Nat} (h : o ≠ 0x340D) : (b.notePeak y).rd o = b.rd o := by
  unfold Bn.notePeak
  split
  · exact (Bn.rd_wrN ..).trans (if_neg h)
  · rfl

/-- The first sample at the shut-down level: it is counted, and the run of its entry begins. -/
def Bn.tripCounted (b : Bn) (e : Nat) : Bn := (b.mapHkc (fun h => { h with dieRun := mput h.dieRun e 1 0 })).bump 0x340E

section Die

variable {b : Bn} {e : Nat} {y : Int} {sat : Bool}

theorem Bn.dieCheck_of_cool (h : ¬ (sat = true ∨ tripLevel ≤ y)) :
    b.dieCheck e y sat = ((b.notePeak y).mapHkc (fun k => { k with dieRun := mdel k.dieRun e }), false) := if_neg h

theorem Bn.dieCheck_of_first (h : sat = true ∨ tripLevel ≤ y) (hrun : mget b.hkc.dieRun e 0 = 0) :
    b.dieCheck e y sat = ((((b.notePeak y).tripCounted e).urgRequest 0 e).1.alertBit 2 e, false) :=
  (if_pos h).trans (if_pos hrun)

theorem Bn.dieCheck_of_second (h : sat = true ∨ tripLevel ≤ y) (hrun : mget b.hkc.dieRun e 0 ≠ 0) :
    b.dieCheck e y sat = (b.notePeak y, true) := (if_pos h).trans (if_neg hrun)

end Die

/-! ### The sample (R500, R507, R508) -/

/-- An output sample: the input or the code forced by an over-range, the corrected code, whether it saturates, and its other flags. -/
structure HkOut where
  x : Int
  y : Int
  sat : Bool
  unset : Bool
  blanked : Bool
  absent : Bool

/-- Whether the average takes the sample (R331). -/
def HkOut.used (o : HkOut) : Bool := !o.unset && !o.blanked

/-- The sample that a conversion forms at an instant. -/
def Bn.hkOut (b : Bn) (v : Variant) (c : Conv) (raw : Word) (t : Nat) : HkOut :=
  let ovr := b.overIn (t - c.gd) (t + c.gd)
  let x : Int := match ovr with
    | some neg => if neg then -0x80000 else 0x7FFFF
    | none => raw.toInt
  let r : Int × Bool := if c.absent v then (0, false) else if ovr.isSome then (x, true) else Machine.correct c x
  ⟨x, r.1, r.2, decide (t < c.settle + c.gd), b.blankIn (t - c.gd) (t + c.gd), c.absent v⟩

/-- A used sample of a GUARD entry outside its window. -/
def Conv.outside (c : Conv) (o : HkOut) : Bool := o.used && fld (c.w 0) 18 17 == 1 && guardOutside c o.y

theorem guardOutside_iff {c : Conv} {y : Int} : guardOutside c y = true ↔
    y.fdiv 1024 < sx (fld (c.w 3) 19 16 * 64 + fld (c.w 3) 15 10) 10 ∨ sx (fld (c.w 3) 9 0) 10 < y.fdiv 1024 := by
  rw [guardOutside, Bool.or_eq_true, decide_eq_true_iff, decide_eq_true_iff]

theorem Conv.outside_of_unchecked {c : Conv} {o : HkOut} (h : fld (c.w 0) 18 17 = 1 → o.used = false) : c.outside o = false := by
  by_cases hcls : fld (c.w 0) 18 17 = 1
  · rw [Conv.outside, h hcls, Bool.false_and, Bool.false_and]
  · rw [Conv.outside, beq_eq_false_iff_ne.mpr hcls, Bool.and_false, Bool.false_and]

theorem Conv.outside_of_guard {c : Conv} {o : HkOut} (hused : o.used = true) (hcls : fld (c.w 0) 18 17 = 1) :
    c.outside o = guardOutside c o.y := by
  rw [Conv.outside, hused, hcls, beq_self_eq_true, Bool.true_and, Bool.true_and]

/-- The conversion with one more sample. -/
def Conv.take (c : Conv) (o : HkOut) (t : Nat) : Conv :=
  { c with
    lastT := some t
    outs := if o.unset then c.outs else c.outs + 1
    m := c.m + b2n o.used
    sum := if o.used then c.sum + o.y else c.sum
    rawSum := if o.used then c.rawSum + o.x else c.rawSum
    firstT := if o.used = true ∧ c.m = 0 then t else c.firstT
    usedT := if o.used then t else c.usedT
    blanked := c.blanked || (o.blanked && !o.unset)
    ovr := c.ovr || (o.sat && o.used)
    guardOut := c.guardOut || c.outside o
    asked := c.asked || c.outside o }

/-- HKC_RAW of a sample (R520). -/
def Conv.rawWord (c : Conv) (o : HkOut) : Nat :=
  2 ^ 19 + c.entry * 2 ^ 13 + b2n c.urgent * 2 ^ 12 + (b2n o.unset * 8 + b2n o.blanked * 4 + b2n o.sat * 2 + b2n o.absent) * 2 ^ 8

/-- The unit that has taken a sample and shows it. -/
def Bn.takeSample (b : Bn) (c : Conv) (o : HkOut) (t : Nat) : Bn :=
  let b1 := ((b.mapHkc (fun h => { h with conv := some (c.take o t) })).wrN 0x3010 (c.rawWord o)).wrN 0x3011 (ofInt o.y 20)
  if o.sat then b1.bump 0x300B else b1

/-- The same with the mark of a raw output where the entry asks for one. -/
def Bn.showSample (b : Bn) (c : Conv) (o : HkOut) (t : Nat) : Bn :=
  if wbit (c.w 0) 16 then
    (b.takeSample c o t).hkMark 3 c.entry (wof (b2n o.unset * 2 ^ 18 + b2n o.blanked * 2 ^ 17 + b2n o.sat * 2 ^ 16 + b2n o.absent * 2 ^ 15 +
      b2n (c.outside o) * 2 ^ 13 + b.hkBase c)) (o.y * 2 ^ 20) t (b2n o.used)
  else b.takeSample c o t

/-- The guard check of a sample. -/
def Bn.checkGuard (b : Bn) (c : Conv) (o : HkOut) : Bn :=
  if c.outside o then (b.guardCounted.guardAsk c).alertBit 4 c.entry else b

/-- The shut-down check of a sample. -/
def Bn.checkDie (b : Bn) (c : Conv) (o : HkOut) : Bn :=
  if o.used = true ∧ fld (c.w 0) 18 17 = 3 ∧ o.absent = false then
    let d := b.dieCheck c.entry o.y o.sat
    if d.2 then d.1.shutdown else d.1
  else b

/-- A sample is formed at this instant (R496, R497, R499, R517). -/
def Bn.Forms (b : Bn) (c : Conv) (t : Nat) : Prop :=
  t = c.nextT ∧ c.full = false ∧ b.excLost c = false ∧ t + c.gd < b.tNow + 25600

theorem Conv.full_eq_false_iff {c : Conv} : c.full = false ↔ ¬ (2 ^ c.k ≤ c.m ∨ 2 ^ (c.k + 1) ≤ c.outs) := by
  rw [Conv.full, ← Bool.not_eq_true, Bool.or_eq_true, decide_eq_true_iff, decide_eq_true_iff]

theorem Bn.hkSample_of_idle {b : Bn} (h : b.hkc.conv = none) (v : Variant) (raw : Word) (t : Nat) : b.hkSample v raw t = b := by
  rw [Bn.hkSample, h]

section Sample

variable {b : Bn} {c : Conv} {t : Nat} (hc : b.hkc.conv = some c) (v : Variant) (raw : Word)
include hc

theorem Bn.hkSample_of_not_forms (h : ¬ b.Forms c t) : b.hkSample v raw t = b := by
  have hskip : t ≠ c.nextT ∨ c.full = true ∨ b.excLost c = true ∨ b.tNow + 25600 ≤ t + c.gd := by
    simpa only [Bn.Forms, Classical.not_and_iff_not_or_not, Bool.not_eq_false, Nat.not_lt] using h
  simp only [Bn.hkSample, hc]
  exact if_pos hskip

/-- A sample is taken and shown, then checked. -/
theorem Bn.hkSample_of_forms (h : b.Forms c t) :
    b.hkSample v raw t =
      ((b.showSample c (b.hkOut v c raw t) t).checkGuard c (b.hkOut v c raw t)).checkDie c (b.hkOut v c raw t) := by
  obtain ⟨hdue, hfull, hlost, htime⟩ := h
  have hform : ¬ (t ≠ c.nextT ∨ c.full = true ∨ b.excLost c = true ∨ b.tNow + 25600 ≤ t + c.gd) := by
    simp only [hfull, hlost, Nat.not_le.mpr htime, ← hdue, ne_eq, not_true_eq_false, Bool.false_eq_true, or_self, not_false_eq_true]
  unfold Bn.hkSample
  rw [hc]
  dsimp -zeta only
  rw [if_neg hform]
  extract_lets lo hi e cls ovr absent x r unset blanked used out fl c1 b1 b2 b3 b4
  have hout : b.hkOut v c raw t = ⟨x, r.1, r.2, unset, blanked, absent⟩ := rfl
  rw [hout]
  clear_value x r unset blanked absent
  rfl

end Sample

section Taken

variable (b : Bn) (c : Conv) (o : HkOut) (t : Nat)

theorem Bn.takeSample_hkc : (b.takeSample c o t).hkc = { b.hkc with conv := some (c.take o t) } := by
  unfold Bn.takeSample
  split <;> simp only [Bn.bump_hkc, Bn.wrN_hkc, Bn.mapHkc_hkc]

theorem Bn.takeSample_power : (b.takeSample c o t).power = b.power := by
  unfold Bn.takeSample
  split <;> simp only [Bn.bump_power, Bn.wrN_power, Bn.mapHkc_power]

theorem Bn.takeSample_therm : (b.takeSample c o t).therm = b.therm := by
  unfold Bn.takeSample
  split <;> simp only [Bn.bump_therm, Bn.wrN_therm, Bn.mapHkc_therm]

theorem Bn.takeSample_gal : (b.takeSample c o t).gal = b.gal := by
  unfold Bn.takeSample
  split <;> simp only [Bn.bump_gal, Bn.wrN_gal, Bn.mapHkc_gal]

theorem Bn.rd_takeSample (a : Nat) : (b.takeSample c o t).rd a =
    if a = 0x300B ∧ o.sat = true then satAdd (b.rd 0x300B) 1 20
    else if a = 0x3011 then wof (ofInt o.y 20) else if a = 0x3010 then wof (c.rawWord o) else b.rd a := by
  cases hsat : o.sat <;>
    simp only [Bn.takeSample, hsat, Bn.rd_bump, Bn.rd_wrN, Bn.rd_mapHkc, Bool.false_eq_true, and_false, and_true, if_true, if_false,
      Nat.reduceEqDiff]

theorem Bn.rd_takeSample_ne {a : Nat} (hne : a ∉ [0x300B, 0x3010, 0x3011]) : (b.takeSample c o t).rd a = b.rd a := by
  simp only [List.mem_cons, List.not_mem_nil, or_false, not_or] at hne
  obtain ⟨hovr, hword, hcode⟩ := hne
  rw [Bn.rd_takeSample, if_neg (fun h => hovr h.1), if_neg hcode, if_neg hword]

/-- The mark of a raw output moves queue 34 alone. -/
theorem Bn.unqueued_showSample : (b.showSample c o t).unqueued = (b.takeSample c o t).unqueued := by
  unfold Bn.showSample
  split
  · exact Bn.unqueued_ctlMark ..
  · rfl

theorem Bn.showSample_hkc : (b.showSample c o t).hkc = { b.hkc with conv := some (c.take o t) } :=
  (Bn.hkc_of_unqueued (Bn.unqueued_showSample ..)).trans (Bn.takeSample_hkc ..)

theorem Bn.showSample_power : (b.showSample c o t).power = b.power :=
  (Bn.power_of_unqueued (Bn.unqueued_showSample ..)).trans (Bn.takeSample_power ..)

theorem Bn.showSample_therm : (b.showSample c o t).therm = b.therm :=
  (Bn.therm_of_unqueued (Bn.unqueued_showSample ..)).trans (Bn.takeSample_therm ..)

theorem Bn.rd_showSample {a : Nat} (ha : 0x3000 ≤ a) : (b.showSample c o t).rd a = (b.takeSample c o t).rd a :=
  Bn.rd_of_unqueued (Bn.unqueued_showSample ..) ha

theorem Bn.rd_showSample_ne {a : Nat} (ha : 0x3000 ≤ a) (hne : a ∉ [0x300B, 0x3010, 0x3011]) :
    (b.showSample c o t).rd a = b.rd a :=
  (b.rd_showSample c o t ha).trans (b.rd_takeSample_ne c o t hne)

/-- The word that shows a sample, its code, and the count of samples with OVR (R520). -/
theorem Bn.rd_rawWord_showSample : (b.showSample c o t).rd 0x3010 = wof (c.rawWord o) := by
  rw [Bn.rd_showSample _ _ _ _ (by decide), Bn.rd_takeSample, if_neg (fun h => absurd h.1 (by decide)), if_neg (by decide), if_pos rfl]

theorem Bn.rd_rawCode_showSample : (b.showSample c o t).rd 0x3011 = wof (ofInt o.y 20) := by
  rw [Bn.rd_showSample _ _ _ _ (by decide), Bn.rd_takeSample, if_neg (fun h => absurd h.1 (by decide)), if_pos rfl]

theorem Bn.rd_ovrCnt_showSample :
    (b.showSample c o t).rd 0x300B = if o.sat then satAdd (b.rd 0x300B) 1 20 else b.rd 0x300B := by
  rw [Bn.rd_showSample _ _ _ _ (by decide), Bn.rd_takeSample]
  simp only [true_and, Nat.reduceEqDiff, if_false]

/-- Without the mark of a raw output, only the words that show the sample move. -/
theorem Bn.showSample_of_no_mark (h : wbit (c.w 0) 16 = false) : b.showSample c o t = b.takeSample c o t :=
  if_neg (ne_true_of_eq_false h)

end Taken

/-! ### The shut-down (R527) -/

theorem Bn.shutdown_power (b : Bn) :
    b.shutdown.power.dev = .shutdown ∧ b.shutdown.power.clkLossOut = true ∧ b.shutdown.power.doms = [] := ⟨rfl, rfl, rfl⟩

theorem Bn.shutdown_role (b : Bn) : b.shutdown.lease.role = .none := rfl

theorem Bn.shutdown_level (b : Bn) : b.shutdown.sess.level = .open := rfl

theorem Bn.shutdown_lane (b : Bn) (l : Lane) : b.shutdown.lane l = .rest := by
  show (Vector.replicate 7 LaneSt.rest)[l] = _
  exact Vector.getElem_replicate ..

/-! ### What the checks leave and do (R515, R525-R527) -/

section Checked

variable {b : Bn} {c : Conv} {o : HkOut}

theorem Bn.checkGuard_of_inside (h : c.outside o = false) : b.checkGuard c o = b := if_neg (ne_true_of_eq_false h)

theorem Bn.checkGuard_of_outside (h : c.outside o = true) :
    b.checkGuard c o = (b.guardCounted.guardAsk c).alertBit 4 c.entry := if_pos h

theorem Bn.guardCounted_hkc (b : Bn) : b.guardCounted.hkc = b.hkc := by rw [Bn.guardCounted, Bn.bump_hkc, Bn.bit_hkc]

theorem Bn.guardCounted_power (b : Bn) : b.guardCounted.power = b.power := by rw [Bn.guardCounted, Bn.bump_power, Bn.bit_power]

theorem Bn.checkGuard_hkc (b : Bn) (c : Conv) (o : HkOut) : ∃ m urg, (b.checkGuard c o).hkc = b.hkc.requested m urg := by
  cases h : c.outside o with
  | false => exact ⟨false, b.hkc.urg, by rw [Bn.checkGuard_of_inside h, Hkc.requested_self]⟩
  | true =>
    obtain ⟨m, urg, hask⟩ := (b.guardCounted.guardAsk_requested c).hkc
    exact ⟨m, urg, by rw [Bn.checkGuard_of_outside h, Bn.alertBit_hkc, hask, Bn.guardCounted_hkc]⟩

theorem Bn.checkGuard_power (b : Bn) (c : Conv) (o : HkOut) : (b.checkGuard c o).power = b.power := by
  cases h : c.outside o with
  | false => rw [Bn.checkGuard_of_inside h]
  | true =>
    rw [Bn.checkGuard_of_outside h, Bn.alertBit_power, (b.guardCounted.guardAsk_requested c).power, Bn.guardCounted_power]

/-- GUARD_CNT of a sample outside the window. -/
theorem Bn.rd_guardCnt_checkGuard (h : c.outside o = true) : (b.checkGuard c o).rd 0x300D = satAdd (b.rd 0x300D) 1 20 := by
  rw [Bn.checkGuard_of_outside h, Bn.rd_alertBit_ne _ _ _ (by decide) (by decide),
    (b.guardCounted.guardAsk_requested c).rd (by decide) (by decide), Bn.guardCounted, Bn.rd_bump, if_pos rfl, Bn.rd_bit,
    if_neg (by decide)]

/-- GUARD_OUT of HKC_STATUS. -/
theorem Bn.wbit_guardOut_checkGuard (h : c.outside o = true) : wbit ((b.checkGuard c o).rd 0x3000) 15 = true := by
  rw [Bn.checkGuard_of_outside h, Bn.rd_alertBit_ne _ _ _ (by decide) (by decide),
    (b.guardCounted.guardAsk_requested c).wbit_rd (by decide) (by decide), Bn.guardCounted, Bn.rd_bump, if_neg (by decide), Bn.rd_bit,
    if_pos rfl, wbit_setFld_self _ _ _ (by decide)]

/-- An entry without URG_EN, or one that has asked in this dwell, asks for nothing. -/
theorem Bn.checkGuard_urg_of_silent (b : Bn) (o : HkOut) (h : c.asked = true ∨ wbit (c.w 2) 8 = false) :
    (b.checkGuard c o).hkc.urg = b.hkc.urg := by
  cases hout : c.outside o with
  | false => rw [Bn.checkGuard_of_inside hout]
  | true =>
    have hask : ¬ (wbit (c.w 2) 8 = true ∧ c.asked = false) := by
      simpa only [Classical.not_and_iff_not_or_not, Bool.not_eq_true, Bool.not_eq_false] using h.symm
    rw [Bn.checkGuard_of_outside hout, Bn.alertBit_hkc, Bn.guardAsk, if_neg hask, Bn.guardCounted_hkc]

/-- The first sample outside the window of a dwell queues the target. -/
theorem Bn.mem_checkGuard_urg (hout : c.outside o = true) (hfirst : c.asked = false) (hen : wbit (c.w 2) 8 = true)
    (hconv : ∀ c', b.hkc.conv = some c' → c'.entry ≠ fld (c.w 2) 5 0) (hroom : b.hkc.urg.length < 4) :
    ∃ p, (p, fld (c.w 2) 5 0) ∈ (b.checkGuard c o).hkc.urg := by
  rw [Bn.checkGuard_of_outside hout, Bn.alertBit_hkc, Bn.guardAsk, if_pos ⟨hen, hfirst⟩]
  exact Bn.mem_urgRequest 1 hconv hroom

theorem Bn.checkDie_of_not_die (h : ¬ (o.used = true ∧ fld (c.w 0) 18 17 = 3 ∧ o.absent = false)) : b.checkDie c o = b := if_neg h

theorem Bn.tripCounted_hkc (b : Bn) (e : Nat) :
    (b.tripCounted e).hkc = { b.hkc with dieRun := mput b.hkc.dieRun e 1 0 } := (rfl)

theorem Bn.tripCounted_power (b : Bn) (e : Nat) : (b.tripCounted e).power = b.power := (rfl)

section Die

variable (h : o.used = true ∧ fld (c.w 0) 18 17 = 3 ∧ o.absent = false)
include h

/-- Below the shut-down level the count of its entry is 0. -/
theorem Bn.checkDie_of_cool (b : Bn) (hcool : ¬ (o.sat = true ∨ tripLevel ≤ o.y)) :
    mget (b.checkDie c o).hkc.dieRun c.entry 0 = 0 ∧ (b.checkDie c o).power = b.power ∧ (b.checkDie c o).rd 0x340E = b.rd 0x340E := by
  have heq : b.checkDie c o = (b.notePeak o.y).mapHkc (fun k => { k with dieRun := mdel k.dieRun c.entry }) := by
    rw [Bn.checkDie, if_pos h, Bn.dieCheck_of_cool hcool]
    rfl
  rw [heq, Bn.mapHkc_hkc, Bn.mapHkc_power, Bn.notePeak_power, Bn.rd_mapHkc, Bn.rd_notePeak_ne _ _ (by decide)]
  exact ⟨mget_mdel_self .., rfl, rfl⟩

/-- The first sample at the level is counted and alerted. -/
theorem Bn.checkDie_of_first (hhot : o.sat = true ∨ tripLevel ≤ o.y) (hrun : mget b.hkc.dieRun c.entry 0 = 0) :
    mget (b.checkDie c o).hkc.dieRun c.entry 0 = 1 ∧ (b.checkDie c o).rd 0x340E = satAdd (b.rd 0x340E) 1 20 ∧
      wbit ((b.checkDie c o).rd 0x3401) 2 = true ∧ (b.checkDie c o).power = b.power := by
  have heq : b.checkDie c o = (((b.notePeak o.y).tripCounted c.entry).urgRequest 0 c.entry).1.alertBit 2 c.entry := by
    rw [Bn.checkDie, if_pos h, Bn.dieCheck_of_first hhot hrun]
    rfl
  have hask := ((b.notePeak o.y).tripCounted c.entry).urgRequest_requested 0 c.entry
  obtain ⟨m, urg, hhkc⟩ := hask.hkc
  rw [heq]
  refine ⟨?begun, ?counted, Bn.wbit_rd_alertBit _ _ (by decide), ?power⟩
  case begun =>
    rw [Bn.alertBit_hkc, hhkc, Bn.tripCounted_hkc]
    exact mget_mput_self (b.notePeak o.y).hkc.dieRun c.entry 1 0
  case counted =>
    rw [Bn.rd_alertBit_ne _ _ _ (by decide) (by decide), hask.rd (by decide) (by decide), Bn.tripCounted, Bn.rd_bump, if_pos rfl,
      Bn.rd_mapHkc, Bn.rd_notePeak_ne _ _ (by decide)]
  case power => rw [Bn.alertBit_power, hask.power, Bn.tripCounted_power, Bn.notePeak_power]

/-- The next one in a row shuts the unit down. -/
theorem Bn.checkDie_of_second (hhot : o.sat = true ∨ tripLevel ≤ o.y) (hrun : mget b.hkc.dieRun c.entry 0 ≠ 0) :
    b.checkDie c o = (b.notePeak o.y).shutdown := by
  rw [Bn.checkDie, if_pos h, Bn.dieCheck_of_second hhot hrun]
  rfl

end Die

end Checked

/-! ### The code and the flags (R500, R501, R507) -/

theorem clampInt_20 (i : Int) : clampInt i 20 = max (-0x80000) (min 0x7FFFF i) := by
  rw [clampInt, Int.min_comm]
  rfl

theorem clampInt_20_ne_iff (i : Int) : clampInt i 20 ≠ i ↔ i < -0x80000 ∨ 0x7FFFF < i := by
  rw [clampInt_20]
  omega

/-- The correction of R500, saturated to 20 bits. -/
theorem correct_eq {c : Conv} {x i : Int} (hi : i = ((x - (c.w 4).toInt) * (c.w 5).toNat + 2 ^ 17).fdiv (2 ^ 18)) :
    correct c x = (max (-0x80000) (min 0x7FFFF i), decide (i < -0x80000 ∨ 0x7FFFF < i)) := by
  rw [correct, ← hi]
  exact Prod.ext (clampInt_20 i) (decide_eq_decide.mpr (clampInt_20_ne_iff i))

section Code

variable {b : Bn} {v : Variant} {c : Conv} {raw : Word} {t : Nat}

/-- A sample whose window overlaps an over-range is forced by its sign (R507). -/
theorem Bn.hkOut_of_over {neg : Bool} (h : b.overIn (t - c.gd) (t + c.gd) = some neg) :
    (b.hkOut v c raw t).y = (if c.absent v then 0 else if neg then -0x80000 else 0x7FFFF) ∧
      (b.hkOut v c raw t).sat = !c.absent v := by
  cases habs : c.absent v <;> simp [Bn.hkOut, h, habs]

/-- Another sample is corrected (R500). -/
theorem Bn.hkOut_of_no_over {i : Int} (hi : i = ((raw.toInt - (c.w 4).toInt) * (c.w 5).toNat + 2 ^ 17).fdiv (2 ^ 18))
    (h : b.overIn (t - c.gd) (t + c.gd) = none) :
    (b.hkOut v c raw t).y = (if c.absent v then 0 else max (-0x80000) (min 0x7FFFF i)) ∧
      (b.hkOut v c raw t).sat = (!c.absent v && decide (i < -0x80000 ∨ 0x7FFFF < i)) := by
  cases habs : c.absent v <;> simp [Bn.hkOut, h, habs, correct_eq hi]

end Code

/-! ### The row -/

/-- The row on a converter that runs: its sample, and nothing else. -/
theorem exec_hkOutputSample_of_converts {s : State} {u : BnId} (h : Converts s u) (raw : Word) (t : Nat) :
    ∃ s', exec (.hkOutputSample u raw t) s = .next s' ∧ OnlyUnit u s s' ∧ s'.bn u = (s.bn u).hkSample s.variant raw t := by
  obtain ⟨hhas, hdig, hana, hdev, hclk⟩ := h
  have hon : (s.bn u).hkcOn = true := by rw [Bn.hkcOn, hdig, hana, hdev, hclk]; rfl
  refine ⟨(s.draw 4).1.mapBn u (fun b => b.hkSample s.variant raw t), ?_, ?_, ?_⟩
  · rw [exec_hkOutputSample, execHkOutputSample, State.onHkc, if_pos ⟨hhas, hon⟩]
  · simp only [OnlyUnit, State.mapBn_variant, State.mapBn_gradeH, State.bn_mapBn_other, State.mapBn_fvs, State.mapBn_blankPin,
      State.mapBn_trstPin, State.mapBn_pending, State.bn_draw, State.draw_variant, State.draw_gradeH, State.draw_fvs, State.draw_blankPin,
      State.draw_trstPin, State.draw_pending, and_self]
  · rw [State.bn_mapBn, State.bn_draw]

/-- Settles O55: the grid through `le_gridNext`, `exists_gridNext_eq` and `gridNext_le`; a sample through what is formed
(`Bn.hkSample_of_forms`), what it shows (`Bn.showSample_hkc`, `Bn.rd_showSample`), and its two checks
(`Bn.checkGuard_of_outside`, `Bn.checkDie_of_cool`, `Bn.checkDie_of_first`, `Bn.checkDie_of_second`). -/
theorem housekeepingSamples : Obligations.HousekeepingSamples := by
  unfold Obligations.HousekeepingSamples
  refine ⟨fun rate t hrate => ⟨le_gridNext hrate t, exists_gridNext_eq hrate t, fun sec j hj ht => gridNext_le hj ht⟩, ?_⟩
  intro s u raw at_ hconv b row
  obtain ⟨t, hexec, honly, hbn⟩ := exec_hkOutputSample_of_converts hconv raw at_
  refine ⟨fun hidle => ⟨t, hexec, honly, hbn.trans (Bn.hkSample_of_idle hidle ..)⟩, ?_⟩
  intro c hc gd due full formed over_ off unclamped y sat unset blanked used cls
  have hgd : gd = c.gd := by simp only [gd, Conv.gd]
  have hforms : formed ↔ b.Forms c at_ := by
    simp only [Bn.Forms, Conv.full_eq_false_iff]
    exact Iff.rfl
  have hsample := Bn.hkSample_of_forms (t := at_) hc s.variant raw
  have hover : over_ = b.overIn (at_ - c.gd) (at_ + c.gd) := by simp only [over_, hgd]
  obtain ⟨hy, hsat⟩ : y = (b.hkOut s.variant c raw at_).y ∧ sat = (b.hkOut s.variant c raw at_).sat := by
    cases hsign : over_ with
    | some neg =>
      obtain ⟨hy, hsat⟩ := Bn.hkOut_of_over (v := s.variant) (raw := raw) (hover.symm.trans hsign)
      rw [hy, hsat]
      simp only [y, sat, hsign, Option.isSome_some, Bool.true_or, Bool.and_true, and_self]
    | none =>
      obtain ⟨hy, hsat⟩ := Bn.hkOut_of_no_over (v := s.variant) (raw := raw) (i := unclamped) rfl (hover.symm.trans hsign)
      rw [hy, hsat]
      simp only [y, sat, hsign, Option.isSome_none, Bool.false_or, and_self]
  have hunset : unset = (b.hkOut s.variant c raw at_).unset := by simp only [unset, hgd, Bn.hkOut]
  have hblanked : blanked = (b.hkOut s.variant c raw at_).blanked := by simp only [blanked, hgd, Bn.hkOut]
  have habsent : c.absent s.variant = (b.hkOut s.variant c raw at_).absent := by simp only [Bn.hkOut]
  have hused : used = (b.hkOut s.variant c raw at_).used := by rw [HkOut.used, ← hunset, ← hblanked]
  generalize b.hkOut s.variant c raw at_ = o at *
  clear_value used unset blanked sat y
  subst hy hsat hunset hblanked hused
  rw [habsent]
  refine ⟨fun hno => ⟨t, hexec, honly, hbn.trans (Bn.hkSample_of_not_forms hc _ _ (mt hforms.mpr hno))⟩,
    fun hf hunchecked => ?unchecked, fun hf hused hcls => ?guard, fun hf hused hcls habs => ?die⟩ <;>
    replace hbn := hbn.trans (hsample (hforms.mp hf))
  case unchecked =>
    have hinside : c.outside o = false := Conv.outside_of_unchecked fun h => hunchecked (.inl h)
    have hdie : ¬ (o.used = true ∧ fld (c.w 0) 18 17 = 3 ∧ o.absent = false) := fun ⟨hused, hcls, _⟩ =>
      Bool.noConfusion (hused.symm.trans (hunchecked (.inr hcls)))
    rw [Bn.checkGuard_of_inside hinside, Bn.checkDie_of_not_die hdie] at hbn
    refine ⟨t, c.take o at_, hexec, honly, ?_⟩
    rw [hbn]
    refine ⟨Bn.showSample_hkc .., rfl, rfl, rfl, rfl, rfl, rfl, rfl, rfl, rfl, rfl, ?inside, ?word, Bn.rd_rawCode_showSample ..,
      Bn.rd_ovrCnt_showSample .., Bn.showSample_therm .., Bn.showSample_power .., fun hmark => ?plain⟩
    case inside => rw [Conv.take, hinside, Bool.or_false]
    case word => rw [Bn.rd_rawWord_showSample, Conv.rawWord]
    case plain =>
      rw [Bn.showSample_of_no_mark _ _ _ _ hmark]
      exact ⟨fun a ha => Bn.rd_takeSample_ne _ _ _ _ ha, Bn.takeSample_gal ..⟩
  case guard =>
    intro outside
    have hiff : c.outside o = true ↔ outside := by rw [Conv.outside_of_guard hused hcls, guardOutside_iff]
    have hdie : ¬ (o.used = true ∧ fld (c.w 0) 18 17 = 3 ∧ o.absent = false) := fun ⟨_, hthree, _⟩ =>
      absurd (hcls.symm.trans hthree) (by decide)
    rw [Bn.checkDie_of_not_die hdie] at hbn
    obtain ⟨m, urg, hhkc⟩ := (b.showSample c o at_).checkGuard_hkc c o
    have hshown := Bn.showSample_hkc b c o at_
    refine ⟨t, (c.take o at_).meet m, hexec, honly, ?_⟩
    rw [hbn]
    refine ⟨?conv, ?used, ?sum, ?out, ?power, fun hout => ?counted, fun hin => ?inside, fun hsilent => ?silent,
      fun hout hfirst hen hother hroom => ?asks⟩
    case conv => rw [hhkc, hshown]; rfl
    case used => exact congrArg (fun x => c.m + b2n x) hused
    case sum => exact if_pos hused
    case out => exact (Bool.or_eq_true ..).to_iff.trans (or_congr_right hiff)
    case power => rw [Bn.checkGuard_power, Bn.showSample_power]
    case counted =>
      rw [Bn.rd_guardCnt_checkGuard (hiff.mpr hout), Bn.rd_showSample_ne _ _ _ _ (by decide) (by decide)]
      exact ⟨rfl, Bn.wbit_guardOut_checkGuard (hiff.mpr hout)⟩
    case inside =>
      rw [Bn.checkGuard_of_inside (Bool.eq_false_iff.mpr (mt hiff.mp hin)), Bn.rd_showSample_ne _ _ _ _ (by decide) (by decide), hshown]
      exact ⟨rfl, rfl⟩
    case silent => rw [Bn.checkGuard_urg_of_silent _ _ hsilent, hshown]
    case asks =>
      refine Bn.mem_checkGuard_urg (hiff.mpr hout) hfirst hen (fun c' hc' => ?_) (by rwa [hshown])
      rw [hshown] at hc'
      obtain rfl := Option.some.inj hc'
      exact Ne.symm hother
  case die =>
    have hinside : c.outside o = false := Conv.outside_of_unchecked fun hone => absurd (hone.symm.trans hcls) (by decide)
    have hchecked : o.used = true ∧ fld (c.w 0) 18 17 = 3 ∧ o.absent = false := ⟨hused, hcls, habs⟩
    have hrun : (b.showSample c o at_).hkc.dieRun = b.hkc.dieRun := by rw [Bn.showSample_hkc]
    rw [Bn.checkGuard_of_inside hinside] at hbn
    have hcount : (b.showSample c o at_).rd 0x340E = b.rd 0x340E := Bn.rd_showSample_ne _ _ _ _ (by decide) (by decide)
    have hpower := Bn.showSample_power b c o at_
    refine ⟨fun hcool => ⟨t, hexec, honly, ?cool⟩, fun hhot hfirst => ⟨t, hexec, honly, ?first⟩,
      fun hhot hsecond => ⟨t, hexec, honly, ?second⟩⟩ <;> rw [hbn]
    case cool =>
      rw [← hpower, ← hcount]
      exact Bn.checkDie_of_cool hchecked _ hcool
    case first =>
      rw [← hpower, ← hcount]
      exact Bn.checkDie_of_first hchecked hhot (by rwa [hrun])
    case second =>
      rw [Bn.checkDie_of_second hchecked hhot (by rwa [hrun])]
      obtain ⟨hdev, hloss, hdoms⟩ := Bn.shutdown_power ((b.showSample c o at_).notePeak o.y)
      exact ⟨hdev, hloss, hdoms, Bn.shutdown_role _, Bn.shutdown_level _, Bn.shutdown_lane _⟩

end Sys2Proof.Machine
end
